-- ==== Sys2Proof/Word.lean ====
section
/-! DEFINITION. The word types of the machine. Bit 0 is the least significant bit of every value (R7). -/

namespace Sys2Proof

/-- One octet of a dotted quad (R51). -/
abbrev Octet := BitVec 8

/-- A 32-bit value: a raw announcement word (R70), a message held in a word (R100), the accumulator (R24). -/
abbrev Word := BitVec 32

/-- A request written as one 39-bit word `{req_op, req_len, req_data}` (R76). -/
abbrev ReqWord := BitVec 39

end Sys2Proof
end

