-- ==== Sys2Proof/Config.lean ====
section
/-! DEFINITION. The hardwired constants of layer F (R4) and the free values: what the spec writes `any` (R7)
and the open parameter `T_OP` (R4, R152). A free value is opaque: nothing can be proved about which value it is. -/

namespace Sys2Proof.Config

/-- `SEED`, the initial accumulator constant (R4, R101). -/
def seed : Word := 0x54a9abf8#32

/-- `POLY9`, the 9-bit generator polynomial x^8+x^5+x^3+x^2+x+1 (R4, R104). -/
def poly9 : BitVec 9 := 0x12f#9

/-- `POLY_SHIFT`, the left shift applied to `POLY9` before the exclusive or (R4). -/
def polyShift : Nat := 23

/-- `POLY32 = POLY9 << POLY_SHIFT`, accumulator bits 31..23 (R4, R102). -/
def poly32 : Word := poly9.setWidth 32 <<< polyShift

/-- `RESIDUE`, the checksum of a valid 28-bit payload (R4, R123). -/
def residue : BitVec 8 := 0x80#8

/-- `SENTINEL`, the required value of raw bits 31..28 (R4, R121). -/
def sentinel : BitVec 4 := 0b1111#4

/-- `PAYLOAD_W`, the bit length the decoder runs the engine with (R4, R123). -/
def payloadW : Nat := 28

/-- `HORIZON_BASE`, the constant added to the horizon field (R4, R127). -/
def horizonBase : BitVec 12 := 10#12

/-- `YEAR_BASE`, the year added to `total div 12` (R4, R129). -/
def yearBase : Nat := 1971

/-- `ACC_W`, the width of the accumulator, and the greatest legal `bit_length` (R4, R105). -/
def accW : Nat := 32

/-! Free values (log 1, log 2). Each register the spec may leave `any` has a stream of its own, read at the
counter `draws` of State. -/

/-- `T_OP - 1` for the `n`-th draw: a finite number of edges, otherwise open, which may depend on the operation and
its operands and differ from one request to the next (R4, R152, D9; log 1). -/
opaque extraEdges (op : BitVec 1) (len : BitVec 6) (data : Word) (n : Nat) : Nat

/-- `any` content of `OP` (R32; log 2). -/
opaque freeOp (n : Nat) : BitVec 1

/-- `any` content of `OPR` (R32; log 2). -/
opaque freeOpr (n : Nat) : Word

/-- `any` content of `LEN` (R32; log 2). -/
opaque freeLen (n : Nat) : BitVec 6

/-- `any` content of `ACC` (R24, R31, U13; log 2, log 8). -/
opaque freeAcc (n : Nat) : Word

/-- `any` content of `CNT` within its range 0..32 (R24, R33; log 11). -/
opaque freeCnt (n : Nat) : Fin 33

/-- `any` content of `RSP_STATUS` (R26, U3; log 2). -/
opaque freeStatus (n : Nat) : BitVec 2

/-- `any` content of `RSP_CRC` (R26, U3; log 2). -/
opaque freeCrc (n : Nat) : BitVec 8

/-- `any` content of `RSP_YEAR` (R26, U3; log 2). -/
opaque freeYear (n : Nat) : BitVec 12

/-- `any` content of `RSP_MONTH` (R26, U3; log 2). -/
opaque freeMonth (n : Nat) : BitVec 4

/-- `any` content of `RSP_OFFSET` (R26, U3; log 2). -/
opaque freeOffset (n : Nat) : BitVec 7

/-- `any` content of `RSP_DELTA`, `0b10` included (R26, U3, U15; log 2). -/
opaque freeDelta (n : Nat) : BitVec 2

end Sys2Proof.Config
end

