-- ==== Sys2Proof/Syntax.lean ====
section
/-! DEFINITION. The ten rows of spec/opcode_table.json as one inductive, the two word formats they are written in, and
the request triple of the ports. -/

namespace Sys2Proof

/-- One constructor for each row of the opcode table. `checksum` and `decode` are the two operations (format REQ, R76);
the other eight are the classes of announcement words (format ANN32, R70, R74), operand words of `DECODE` (log 6). -/
inductive Instr where
  /-- `CHECKSUM`: `op` = 0, `bit_length`, `message` (R100). -/
  | checksum (len : BitVec 6) (message : Word)
  /-- `DECODE`: `op` = 1, the ignored `len`, the raw word (R120, R77). -/
  | decode (len : BitVec 6) (raw : Word)
  /-- `ANN.NONE`: sentinel good, delta code 0; horizon, offset, checksum fields (R70, R74). -/
  | annNone (horizon : BitVec 11) (offset : BitVec 7) (ck : BitVec 8)
  /-- `ANN.DEC`: sentinel good, delta code 1. -/
  | annDec (horizon : BitVec 11) (offset : BitVec 7) (ck : BitVec 8)
  /-- `ANN.INC`: sentinel good, delta code 2. -/
  | annInc (horizon : BitVec 11) (offset : BitVec 7) (ck : BitVec 8)
  /-- `ANN.ILLEGAL`: sentinel good, delta code 3. -/
  | annIllegal (horizon : BitVec 11) (offset : BitVec 7) (ck : BitVec 8)
  /-- `NOTANN.0xxx`: raw bit 31 is 0; the free sentinel bits and the bits not looked at (R75). -/
  | notAnn0xxx (sent : BitVec 3) (rest : BitVec 28)
  /-- `NOTANN.10xx`: raw bits 31..30 are `10`. -/
  | notAnn10xx (sent : BitVec 2) (rest : BitVec 28)
  /-- `NOTANN.110x`: raw bits 31..29 are `110`. -/
  | notAnn110x (sent : BitVec 1) (rest : BitVec 28)
  /-- `NOTANN.1110`: raw bits 31..28 are `1110`. -/
  | notAnn1110 (rest : BitVec 28)
deriving DecidableEq, Repr

/-- A word of one of the two formats of the opcode table. -/
inductive CodeWord where
  /-- Format REQ (R76). -/
  | req (w : ReqWord)
  /-- Format ANN32 (R70). -/
  | ann (w : Word)
deriving DecidableEq, Repr

/-- The request triple sampled at acceptance (R76, R156). -/
structure Request where
  op : BitVec 1
  len : BitVec 6
  data : Word
deriving DecidableEq, Repr

end Sys2Proof
end

