-- ==== Sys2Proof/WellFormed.lean ====
section
/-! DEFINITION. Which instructions have a meaning: a `CHECKSUM` has `bit_length` 1..32 (R77, R105); everything else the
types admit is legal (R75, R77). -/

namespace Sys2Proof

/-- `bit_length` is in 1..32, the domain of the checksum function (R105). -/
abbrev LegalLength (len : BitVec 6) : Prop := 1 ≤ len.toNat ∧ len.toNat ≤ Config.accW

/-- A well-formed instruction (R77): only the length of a `CHECKSUM` is checked. -/
def Instr.wellFormed : Instr → Bool
  | .checksum len _ => decide (LegalLength len)
  | .decode _ _ => true
  | .annNone _ _ _ => true
  | .annDec _ _ _ => true
  | .annInc _ _ _ => true
  | .annIllegal _ _ _ => true
  | .notAnn0xxx _ _ => true
  | .notAnn10xx _ _ => true
  | .notAnn110x _ _ => true
  | .notAnn1110 _ => true

/-- A legal request: `DECODE`, or `CHECKSUM` with a length 1..32 (R77, R207). -/
abbrev Request.Legal (r : Request) : Prop := r.op = 0#1 → LegalLength r.len

end Sys2Proof
end

