-- ==== Sys2Proof/Decode.lean ====
section
/-! DEFINITION. The decoder and the encoder of the two formats (R70, R75, R76), the table's own mask and match rows,
the big-endian assembly of octets (R51), and the numbered form the host reads. -/

namespace Sys2Proof

/-! ## Words and octets -/

/-- `quad(a, b, c, d)`: the 32-bit value of four octets, big-endian (R51). -/
def quad (a b c d : Octet) : Word :=
  (a.setWidth 32 <<< 24) ||| (b.setWidth 32 <<< 16) ||| (c.setWidth 32 <<< 8) ||| d.setWidth 32

/-- `REQ = {op, len, data}` (R76). -/
def Request.word (r : Request) : ReqWord := r.op ++ r.len ++ r.data

/-- The request a 39-bit word is written for (R76). -/
def requestOf (w : ReqWord) : Request :=
  { op := w.extractLsb' 38 1, len := w.extractLsb' 32 6, data := w.extractLsb' 0 32 }

/-! ## The decoder -/

/-- Format REQ: bit 38 selects the operation (R76); both values are operations. -/
def decodeReq (w : ReqWord) : Instr :=
  if w.extractLsb' 38 1 = 0#1 then .checksum (w.extractLsb' 32 6) (w.extractLsb' 0 32)
  else .decode (w.extractLsb' 32 6) (w.extractLsb' 0 32)

/-- Format ANN32: the sentinel, then the delta code, choose the row (R70, R74, R75). -/
def decodeAnn (w : Word) : Instr :=
  if w.extractLsb' 31 1 = 0b0#1 then .notAnn0xxx (w.extractLsb' 28 3) (w.extractLsb' 0 28)
  else if w.extractLsb' 30 2 = 0b10#2 then .notAnn10xx (w.extractLsb' 28 2) (w.extractLsb' 0 28)
  else if w.extractLsb' 29 3 = 0b110#3 then .notAnn110x (w.extractLsb' 28 1) (w.extractLsb' 0 28)
  else if w.extractLsb' 28 4 = 0b1110#4 then .notAnn1110 (w.extractLsb' 0 28)
  else if w.extractLsb' 15 2 = 0#2 then
    .annNone (w.extractLsb' 17 11) (w.extractLsb' 8 7) (w.extractLsb' 0 8)
  else if w.extractLsb' 15 2 = 1#2 then
    .annDec (w.extractLsb' 17 11) (w.extractLsb' 8 7) (w.extractLsb' 0 8)
  else if w.extractLsb' 15 2 = 2#2 then
    .annInc (w.extractLsb' 17 11) (w.extractLsb' 8 7) (w.extractLsb' 0 8)
  else
    .annIllegal (w.extractLsb' 17 11) (w.extractLsb' 8 7) (w.extractLsb' 0 8)

/-- The instruction of a word of either format. Total: every word of either format is some row (R74, R170). -/
def decodeCode : CodeWord → Instr
  | .req w => decodeReq w
  | .ann w => decodeAnn w

/-- Why a sequence of bits is no word of the opcode table (log 13). -/
inductive DecodeError where
  /-- A width that is no format's: neither 39 (or 40, whole bytes) nor 32. -/
  | noSuchWidth (nbits : Nat)
  /-- A bit is set above the format's top bit. -/
  | bitsAboveFormat (nbits w : Nat)
  /-- A dotted quad has exactly four octets (R51). -/
  | octetCount (n : Nat)
deriving DecidableEq, Repr

/-- The word of `nbits` bits with the value `w`, or why there is none (log 13). -/
def codeWordOf (nbits w : Nat) : Except DecodeError CodeWord :=
  if nbits = 32 then
    if w < 2 ^ 32 then .ok (.ann (BitVec.ofNat 32 w)) else .error (.bitsAboveFormat nbits w)
  else if nbits = 39 ∨ nbits = 40 then
    if w < 2 ^ 39 then .ok (.req (BitVec.ofNat 39 w)) else .error (.bitsAboveFormat nbits w)
  else .error (.noSuchWidth nbits)

/-- The instruction the decoder reads from a numbered word, or the rejection by name. -/
def decodeNumbered (nbits w : Nat) : Except DecodeError Instr :=
  match codeWordOf nbits w with
  | .ok c => .ok (decodeCode c)
  | .error e => .error e

/-- The instruction of the opcode table that `nbits` bits with the value `w` stand for. -/
def decodeTableWord (nbits w : Nat) : Option Instr :=
  match decodeNumbered nbits w with
  | .ok i => some i
  | .error _ => none

/-- The announcement word of a list of octets, in the order the dotted quad writes them (R51); anything but four octets
is rejected by name. -/
def decodeOctets : List Octet → Except DecodeError Instr
  | [a, b, c, d] => .ok (decodeAnn (quad a b c d))
  | other => .error (.octetCount other.length)

/-- The request line `checksum <message>, <bit_length>` (R79). -/
def checksumLine (message : Word) (len : BitVec 6) : Request := { op := 0#1, len := len, data := message }

/-- The request line `decode <raw>` (R79). -/
def decodeLine (raw : Word) : Request := { op := 1#1, len := 0#6, data := raw }

/-- The request line `decode a.b.c.d` (R80). -/
def decodeQuad (a b c d : Octet) : Request := decodeLine (quad a b c d)

/-! ## The encoder -/

/-- An ANN32 word with the good sentinel: `1111 h dd m c` (R70). -/
def annWord (horizon : BitVec 11) (deltaCode : BitVec 2) (offset : BitVec 7) (ck : BitVec 8) : Word :=
  0b1111#4 ++ horizon ++ deltaCode ++ offset ++ ck

/-- The word of an instruction, from the encodings of R70, R75 and R76. -/
def encode : Instr → CodeWord
  | .checksum len message => .req (0#1 ++ len ++ message)
  | .decode len raw => .req (1#1 ++ len ++ raw)
  | .annNone h m c => .ann (annWord h 0#2 m c)
  | .annDec h m c => .ann (annWord h 1#2 m c)
  | .annInc h m c => .ann (annWord h 2#2 m c)
  | .annIllegal h m c => .ann (annWord h 3#2 m c)
  | .notAnn0xxx s r => .ann (0b0#1 ++ s ++ r)
  | .notAnn10xx s r => .ann (0b10#2 ++ s ++ r)
  | .notAnn110x s r => .ann (0b110#3 ++ s ++ r)
  | .notAnn1110 r => .ann (0b1110#4 ++ r)

/-- How many bits a word has in the numbered form, in whole bytes. -/
def CodeWord.nbits : CodeWord → Nat
  | .req _ => 40
  | .ann _ => 32

/-- The bits of a word as a number. -/
def CodeWord.bits : CodeWord → Nat
  | .req w => w.toNat
  | .ann w => w.toNat

/-! ## The table's own rows -/

/-- A row's format, mask and match as spec/opcode_table.json gives them. -/
structure TableRow where
  mnemonic : String
  nbits : Nat
  mask : Nat
  pattern : Nat
deriving DecidableEq, Repr

/-- The row of spec/opcode_table.json an instruction stands for, with the table's mask and match. -/
def Instr.row : Instr → TableRow
  | .checksum _ _ => ⟨"CHECKSUM", 39, 0x4000000000, 0x0000000000⟩
  | .decode _ _ => ⟨"DECODE", 39, 0x4000000000, 0x4000000000⟩
  | .annNone _ _ _ => ⟨"ANN.NONE", 32, 0xF0018000, 0xF0000000⟩
  | .annDec _ _ _ => ⟨"ANN.DEC", 32, 0xF0018000, 0xF0008000⟩
  | .annInc _ _ _ => ⟨"ANN.INC", 32, 0xF0018000, 0xF0010000⟩
  | .annIllegal _ _ _ => ⟨"ANN.ILLEGAL", 32, 0xF0018000, 0xF0018000⟩
  | .notAnn0xxx _ _ => ⟨"NOTANN.0xxx", 32, 0x80000000, 0x00000000⟩
  | .notAnn10xx _ _ => ⟨"NOTANN.10xx", 32, 0xC0000000, 0x80000000⟩
  | .notAnn110x _ _ => ⟨"NOTANN.110x", 32, 0xE0000000, 0xC0000000⟩
  | .notAnn1110 _ => ⟨"NOTANN.1110", 32, 0xF0000000, 0xE0000000⟩

/-- A value matches a row: the masked bits are the row's pattern. -/
def TableRow.fits (r : TableRow) (w : Nat) : Bool := (w &&& r.mask) == r.pattern

/-- The eight ANN32 rows, in the table's order. -/
def annRows : List TableRow :=
  [Instr.row (.annNone 0 0 0), Instr.row (.annDec 0 0 0), Instr.row (.annInc 0 0 0), Instr.row (.annIllegal 0 0 0),
   Instr.row (.notAnn0xxx 0 0), Instr.row (.notAnn10xx 0 0), Instr.row (.notAnn110x 0 0), Instr.row (.notAnn1110 0)]

end Sys2Proof
end

