-- ==== Sys2Proof/Machine/Operands.lean ====
section
/-! DEFINITION. How an operand becomes a value: the alignment of a message (R52, R53), the fields of an announcement word
(R71, R72) and their interpretation (R73, R127, R129). -/

namespace Sys2Proof.Machine

/-- The message moved up so that its top significant bit is bit 31; what passes bit 31 is dropped (R52, R53, R101). -/
def alignMessage (message : Word) (bitLength : Nat) : Word := message <<< (Config.accW - bitLength)

/-- Raw bits 31..28 (R121). -/
def sentinelOf (raw : Word) : BitVec 4 := raw.extractLsb' 28 4

/-- `payload28 = raw & 0x0FFFFFFF` (R71, R122). -/
def payload28 (raw : Word) : BitVec 28 := (raw &&& 0x0FFFFFFF#32).setWidth 28

/-- `fields20 = payload28 >> 8` (R71, R124). -/
def fields20 (payload : BitVec 28) : BitVec 20 := (payload >>> 8).setWidth 20

/-- `offset_magnitude = fields20 & 0x7F` (R72, R125). -/
def offsetMagnitude (fields : BitVec 20) : BitVec 7 := (fields &&& 0x7F#20).setWidth 7

/-- `r1 = fields20 >> 7`, 13 bits (R72, R125). -/
def afterOffset (fields : BitVec 20) : BitVec 13 := (fields >>> 7).setWidth 13

/-- `delta_code = r1 & 0x3` (R72, R126). -/
def deltaCode (r1 : BitVec 13) : BitVec 2 := (r1 &&& 0x3#13).setWidth 2

/-- `r2 = r1 >> 2`, the 11-bit horizon field (R72, R126, R127). -/
def horizonField (r1 : BitVec 13) : BitVec 11 := (r1 >>> 2).setWidth 11

/-- `total = horizon_month_offset + 10`, in 12 bits (R73, R127, D26; log 14). -/
def horizonTotal (horizon : BitVec 11) : BitVec 12 := horizon.setWidth 12 + Config.horizonBase

/-- `year = 1971 + total div 12` (R129). -/
def yearOf (total : BitVec 12) : Nat := Config.yearBase + total.toNat / 12

/-- `month = 1 + total mod 12` (R129). -/
def monthOf (total : BitVec 12) : Nat := 1 + total.toNat % 12

/-- The three legal actions at the end of the horizon month, with the names of R81. -/
inductive DeltaAction where
  | none
  | decrement
  | increment
deriving DecidableEq, Repr

/-- The action of a delta code; code 3 has none (R73, R128, U4). -/
def deltaAction (code : BitVec 2) : Option DeltaAction :=
  if code = 0#2 then some .none
  else if code = 1#2 then some .decrement
  else if code = 2#2 then some .increment
  else Option.none

/-- `delta`: 0, -1 or +1 (R129). -/
def deltaSeconds : DeltaAction → Int
  | .none => 0
  | .decrement => -1
  | .increment => 1

/-- The payload of an announcement word from its four fields (R71). -/
def payloadOf (horizon : BitVec 11) (code : BitVec 2) (offset : BitVec 7) (ck : BitVec 8) : BitVec 28 :=
  horizon ++ code ++ offset ++ ck

end Sys2Proof.Machine
end

