-- ==== Sys2Proof/Machine/Engine.lean ====
section
/-! DEFINITION. The checksum engine of layer F (R100 to R106), and the derived closed form of R107. -/

namespace Sys2Proof.Machine

/-- The working registers `ACC` and `CNT` of one checksum computation (R24). -/
structure EngineRegs where
  acc : Word
  cnt : BitVec 6
deriving DecidableEq, Repr

/-- Initialisation: `ACC <- SEED ^ (message << (32 - bit_length))`, `CNT <- 0` (R101). -/
def engineStart (message : Word) (bitLength : Nat) : EngineRegs :=
  { acc := Config.seed ^^^ alignMessage message bitLength, cnt := 0#6 }

/-- What one iteration does to the accumulator: the polynomial if the top bit is set, then a shift by one (R102). -/
def accIterate (acc : Word) : Word :=
  (if acc.getLsbD 31 then acc ^^^ Config.poly32 else acc) <<< 1

/-- One iteration (R102). -/
def engineIterate (e : EngineRegs) : EngineRegs :=
  { acc := accIterate e.acc, cnt := e.cnt + 1#6 }

/-- `n` iterations (R102). -/
def engineRun : Nat → EngineRegs → EngineRegs
  | 0, e => e
  | n + 1, e => engineRun n (engineIterate e)

/-- The result, `ACC[31:24]` (R103). -/
def engineResult (acc : Word) : BitVec 8 := acc.extractLsb' 24 8

/-- `checksum(message, bit_length)` (R100). It has a value for `bit_length` 1..32 only (R105); every caller checks the
length first, and no statement speaks of it at another length (log 17). -/
def checksum (message : Word) (bitLength : Nat) : BitVec 8 :=
  engineResult (engineRun bitLength (engineStart message bitLength)).acc

/-! ## Derived: the remainder modulo the polynomial -/

/-- Long division over GF(2): clear bits `k + 7` down to 8 of a 40-bit polynomial by the generator (R107). -/
def pmodFrom : Nat → BitVec 40 → BitVec 40
  | 0, a => a
  | k + 1, a => pmodFrom k (if a.getLsbD (k + 8) then a ^^^ (Config.poly9.setWidth 40 <<< k) else a)

/-- `pmod(A)`, the remainder of `A` modulo `0x12f`, 8 bits (R8, R107), for polynomials of up to 40 bits. -/
def pmod (a : BitVec 40) : BitVec 8 := (pmodFrom 32 a).setWidth 8

end Sys2Proof.Machine
end

