-- ==== Sys2Proof/Machine/Announcement.lean ====
section
/-! DEFINITION. The announcement decoder of layer F (R120 to R134), and the derived producer function (R135), which is no
operation of the block. -/

namespace Sys2Proof.Machine

/-- The error taxonomy (R170). -/
inductive ErrorKind where
  /-- "sentinel nibble mismatch", raised by step 1 (R121). -/
  | badFormat
  /-- "checksum mismatch", raised by step 3 (R123). -/
  | integrityFailure
  /-- The reserved delta code, raised by step 8 (R128). -/
  | illegalDelta
deriving DecidableEq, Repr

/-- The value object of a successful decode (R120, R130). -/
structure Announced where
  year : Nat
  month : Nat
  offsetSeconds : Nat
  delta : Int
deriving DecidableEq, Repr

/-- `Result<{year, month, offset_seconds, delta}, ErrorKind>` (R120); an error carries its kind and nothing else (R132). -/
inductive DecodeResult where
  | ok (a : Announced)
  | err (k : ErrorKind)
deriving DecidableEq, Repr

/-- Step 9, the interpretation of the three fields (R129). -/
def interpret (horizon : BitVec 11) (offset : BitVec 7) (action : DeltaAction) : Announced :=
  { year := yearOf (horizonTotal horizon)
    month := monthOf (horizonTotal horizon)
    offsetSeconds := offset.toNat
    delta := deltaSeconds action }

/-- Steps 4 to 10: the fields of a payload whose residue is good; the reserved delta code is the only failure left (R124
to R130). -/
def unpack (payload : BitVec 28) : DecodeResult :=
  let fields := fields20 payload
  let offset := offsetMagnitude fields
  let r1 := afterOffset fields
  let code := deltaCode r1
  let horizon := horizonField r1
  match deltaAction code with
  | none => .err .illegalDelta
  | some action => .ok (interpret horizon offset action)

/-- The residue condition of step 3: the engine over all 28 payload bits, checksum field included, gives `0x80` (R123,
R134). -/
def residueGood (payload : BitVec 28) : Bool :=
  checksum (payload.setWidth 32) Config.payloadW == Config.residue

/-- `decode(raw)`, the ten steps in their order (R120 to R131). -/
def decodeAnnouncement (raw : Word) : DecodeResult :=
  if sentinelOf raw = Config.sentinel then
    if residueGood (payload28 raw) then unpack (payload28 raw)
    else .err .integrityFailure
  else .err .badFormat

/-- `encode(h, dc, om)`, the derived producer function for test data (R135, D30). -/
def produce (horizon : BitVec 11) (code : BitVec 2) (offset : BitVec 7) : Word :=
  annWord horizon code offset (checksum ((horizon ++ code ++ offset).setWidth 32) 20)

end Sys2Proof.Machine
end

