-- ==== Sys2Proof/Machine/State.lean ====
section
/-! DEFINITION. The state of one instance of the block (R33), the levels of its input ports (R27), the reasons a step
can stop, and the state after reset (R32). -/

namespace Sys2Proof.Machine

/-- The input ports of R27 as the host drives them at one rising edge of `clk`. -/
structure Pins where
  rst : Bool
  reqValid : Bool
  reqOp : BitVec 1
  reqLen : BitVec 6
  reqData : Word
deriving DecidableEq, Repr

/-- The output ports of R27. -/
structure OutPins where
  reqReady : Bool
  rspValid : Bool
  rspStatus : BitVec 2
  rspCrc : BitVec 8
  rspYear : BitVec 12
  rspMonth : BitVec 4
  rspOffset : BitVec 7
  rspDelta : BitVec 2
deriving DecidableEq, Repr

/-- One instance of the block. The first thirteen fields are the record of R33; the last three are the model's own. -/
structure State where
  /-- `BUSY`: an operation is in progress (R25). -/
  busy : Bool
  /-- `OP`: the operation, 0 `CHECKSUM`, 1 `DECODE` (R23). -/
  op : BitVec 1
  /-- `OPR`: the message or the raw word (R23). -/
  opr : Word
  /-- `LEN`: the bit length of a `CHECKSUM` (R23). -/
  len : BitVec 6
  /-- `ACC`: the accumulator, hidden (R24, R31). -/
  acc : Word
  /-- `CNT`: iterations performed, 0..32, hidden (R24, R31). -/
  cnt : BitVec 6
  /-- `RSP_VALID` (R26). -/
  rspValid : Bool
  /-- `RSP_STATUS` (R26, R170). -/
  rspStatus : BitVec 2
  /-- `RSP_CRC` (R26). -/
  rspCrc : BitVec 8
  /-- `RSP_YEAR` (R26). -/
  rspYear : BitVec 12
  /-- `RSP_MONTH` (R26). -/
  rspMonth : BitVec 4
  /-- `RSP_OFFSET` (R26). -/
  rspOffset : BitVec 7
  /-- `RSP_DELTA` (R26). -/
  rspDelta : BitVec 2
  /-- The model's own: edges that still pass before the operation in progress completes, what is left of `T_OP`
  (R152; log 1). Not looked at while `busy` is false. -/
  wait : Nat
  /-- The model's own: the counter the free values are read at (log 2). -/
  draws : Nat
  /-- The model's own: the input ports at the coming edges, the next edge first (R156, log 4). -/
  script : List Pins
deriving DecidableEq, Repr

/-- Why the machine could stop with a fault. There is no such reason: "no fault, no stuck state and no hang" (R181;
log 18). Safe: a model without faults hides nothing here, since the three error kinds are ordinary results (R170). -/
inductive Fault where
deriving DecidableEq, Repr

/-- Why the model gives no meaning. -/
inductive Refusal where
  /-- An instruction without a meaning. No arm of `exec` raises it. Safe: nothing can be proved of such a step. -/
  | notModelled (mnemonic : String)
  /-- A `CHECKSUM` with `bit_length` 0 or 33..63, raised when such a request is accepted and by the meaning of
  `CHECKSUM` itself (R77, R105, R156, U2; log 7). Safe: "refusing the rest errs toward unprovable" (D17). -/
  | reservedLength (len : BitVec 6)
deriving DecidableEq, Repr

/-- The state right after reset (R32). `BUSY` and `RSP_VALID` are the spec's; the spec leaves every other register `any`
and the model names 0 (DESIGN CHOICE, log 3, unsafe); the model's own fields: log 4 and log 16. -/
def State.reset : State where
  busy := false
  op := 0#1
  opr := 0#32
  len := 0#6
  acc := 0#32
  cnt := 0#6
  rspValid := false
  rspStatus := 0#2
  rspCrc := 0#8
  rspYear := 0#12
  rspMonth := 0#4
  rspOffset := 0#7
  rspDelta := 0#2
  wait := 0
  draws := 0
  script := []

end Sys2Proof.Machine
end

