-- ==== Sys2Proof/Machine/Flags.lean ====
section
/-! DEFINITION. The status bits (R28), the codes of `RSP_STATUS` (R170) and `RSP_DELTA` (R136), and which result registers
are meaningful (R26, R205). The block has no arithmetic condition codes (R28). -/

namespace Sys2Proof.Machine

/-- The value of `RSP_STATUS` for no error (R170). -/
def statusOk : BitVec 2 := 0#2

/-- The value of `RSP_STATUS` for an error kind (R136, R170). -/
def errorCode : ErrorKind → BitVec 2
  | .badFormat => 1#2
  | .integrityFailure => 2#2
  | .illegalDelta => 3#2

/-- The error kind of a value of `RSP_STATUS`; 0 is `OK` (R170). -/
def errorOfCode (code : BitVec 2) : Option ErrorKind :=
  if code = 1#2 then some .badFormat
  else if code = 2#2 then some .integrityFailure
  else if code = 3#2 then some .illegalDelta
  else none

/-- `RSP_DELTA`: `0b00` for 0, `0b01` for +1, `0b11` for -1, two's complement (R26, R136, D7). -/
def deltaBits (delta : Int) : BitVec 2 := BitVec.ofInt 2 delta

/-- `req_ready = NOT BUSY` (R25, R27). -/
def State.reqReady (s : State) : Bool := !s.busy

/-- `RSP_STATUS` is meaningful (R26, R205). -/
def State.statusReadable (s : State) : Bool := s.rspValid

/-- `RSP_CRC` is meaningful: a response of a `CHECKSUM` is held (R26, R205; log 10). -/
def State.crcReadable (s : State) : Bool := s.rspValid && s.op == 0#1

/-- The four field registers are meaningful: the response of a `DECODE` without error is held (R26, R205; log 10). -/
def State.fieldsReadable (s : State) : Bool := s.rspValid && s.op == 1#1 && s.rspStatus == statusOk

end Sys2Proof.Machine
end

