-- ==== Sys2Proof/Machine/Ops.lean ====
section
/-! DEFINITION. The named operations on the state: sampling the ports, the free draws, the engine, the responses (the error
response, the block's only exception, among them), and the effects of the five kinds of clock edge. -/

namespace Sys2Proof.Machine

/-! ## Ports -/

/-- Ports on which the host does nothing: no reset, no request; the request ports are then not looked at (R27, R150). -/
def idlePins : Pins := { rst := false, reqValid := false, reqOp := 0#1, reqLen := 0#6, reqData := 0#32 }

/-- Ports on which the host presents a request. -/
def presentPins (r : Request) : Pins :=
  { rst := false, reqValid := true, reqOp := r.op, reqLen := r.len, reqData := r.data }

/-- Ports on which the host asserts reset. -/
def resetPins : Pins := { rst := true, reqValid := false, reqOp := 0#1, reqLen := 0#6, reqData := 0#32 }

/-- The request on the ports (R76). -/
def requestOnPins (p : Pins) : Request := { op := p.reqOp, len := p.reqLen, data := p.reqData }

/-- The input ports at the next rising edge; a host with nothing more to do drives none of them (log 4). -/
def State.pins (s : State) : Pins := s.script.headD idlePins

/-- The ports at the next edge have been sampled. -/
def State.sampled (s : State) : State := { s with script := s.script.tail }

/-- The output ports: each shows its register continuously (R26, R27). -/
def State.outPins (s : State) : OutPins :=
  { reqReady := s.reqReady, rspValid := s.rspValid, rspStatus := s.rspStatus, rspCrc := s.rspCrc, rspYear := s.rspYear,
    rspMonth := s.rspMonth, rspOffset := s.rspOffset, rspDelta := s.rspDelta }

/-! ## Free draws -/

/-- The free content of `CNT` as a register value, within 0..32 (R33; log 11). -/
def drawnCnt (n : Nat) : BitVec 6 := BitVec.ofNat 6 (Config.freeCnt n).val

/-- `ACC` and `CNT` hold `any` (R31, U13; log 8). -/
def State.drawWork (s : State) : State :=
  { s with acc := Config.freeAcc s.draws, cnt := drawnCnt s.draws }

/-- Every result register that is not meaningful holds `any`, and need not be stable; a meaningful one keeps its value
(R26, R154; log 10). -/
def State.drawResults (s : State) : State :=
  { s with
    rspStatus := if s.statusReadable then s.rspStatus else Config.freeStatus s.draws
    rspCrc := if s.crcReadable then s.rspCrc else Config.freeCrc s.draws
    rspYear := if s.fieldsReadable then s.rspYear else Config.freeYear s.draws
    rspMonth := if s.fieldsReadable then s.rspMonth else Config.freeMonth s.draws
    rspOffset := if s.fieldsReadable then s.rspOffset else Config.freeOffset s.draws
    rspDelta := if s.fieldsReadable then s.rspDelta else Config.freeDelta s.draws }

/-- The next free values are others. -/
def State.tick (s : State) : State := { s with draws := s.draws + 1 }

/-! ## The engine on the state -/

/-- One whole checksum computation in `ACC` and `CNT` (R101, R102; log 8). -/
def State.runEngine (message : Word) (bitLength : Nat) (s : State) : State :=
  let e := engineRun bitLength (engineStart message bitLength)
  { s with acc := e.acc, cnt := e.cnt }

/-! ## Responses: completion of an operation (R153), all registers together (R54) -/

/-- The response of a `CHECKSUM`: status 0, the checksum, the field registers `any` (R111, R153). -/
def State.respondCrc (c : BitVec 8) (s : State) : State :=
  { s with
    busy := false
    rspValid := true
    rspStatus := statusOk
    rspCrc := c
    rspYear := Config.freeYear s.draws
    rspMonth := Config.freeMonth s.draws
    rspOffset := Config.freeOffset s.draws
    rspDelta := Config.freeDelta s.draws
    draws := s.draws + 1 }

/-- The response of a successful `DECODE` (R136, R153). -/
def State.respondOk (a : Announced) (s : State) : State :=
  { s with
    busy := false
    rspValid := true
    rspStatus := statusOk
    rspCrc := Config.freeCrc s.draws
    rspYear := BitVec.ofNat 12 a.year
    rspMonth := BitVec.ofNat 4 a.month
    rspOffset := BitVec.ofNat 7 a.offsetSeconds
    rspDelta := deltaBits a.delta
    draws := s.draws + 1 }

/-- Taking an error, the block's only exception: the operation ends and completes like any other, `RSP_STATUS` is the kind's
code, every other result register is `any`; nothing is saved and control goes nowhere (R136, R171, R174). There is no return
from it: the block is ready for the next request (R175). -/
def State.raiseError (k : ErrorKind) (s : State) : State :=
  { s with
    busy := false
    rspValid := true
    rspStatus := errorCode k
    rspCrc := Config.freeCrc s.draws
    rspYear := Config.freeYear s.draws
    rspMonth := Config.freeMonth s.draws
    rspOffset := Config.freeOffset s.draws
    rspDelta := Config.freeDelta s.draws
    draws := s.draws + 1 }

/-- The response of a `DECODE` with the outcome `r` (R136). -/
def State.respondDecode : DecodeResult → State → State
  | .ok a, s => s.respondOk a
  | .err k, s => s.raiseError k

/-- The engine runs over a payload, and the decode outcome is `r` if the residue is good, else `IntegrityFailure` (R123). -/
def State.respondUnderResidue (payload : BitVec 28) (r : DecodeResult) (s : State) : State :=
  let t := s.runEngine (payload.setWidth 32) Config.payloadW
  if engineResult t.acc = Config.residue then t.respondDecode r else t.respondDecode (.err .integrityFailure)

/-- A word without the sentinel: `BadFormat`. Whether the engine ran is left free, so `ACC` and `CNT` are `any` (R121,
R136, D25; log 9). -/
def State.respondBadFormat (s : State) : State := s.drawWork.respondDecode (.err .badFormat)

/-! ## The kinds of clock edge -/

/-- What happens at a rising edge: the steps of R156, and the two kinds of edge at which none is taken. -/
inductive Edge where
  /-- `rst` = 1 (R200). -/
  | reset
  /-- `BUSY` = 1 and `T_OP` edges have passed (R153). -/
  | complete
  /-- `BUSY` = 1, the operation goes on (R152). -/
  | wait
  /-- A request is accepted (R150). -/
  | accept (r : Request)
  /-- `BUSY` = 0 and no request is presented. -/
  | idle
deriving DecidableEq, Repr

/-- Which kind the next edge is. Reset wins over everything (R200, D27); a request is looked at only when `rst` = 0,
`req_valid` = 1 and `BUSY` = 0 (R150). -/
def State.edge (s : State) : Edge :=
  if s.pins.rst then .reset
  else if s.busy then (if s.wait = 0 then .complete else .wait)
  else if s.pins.reqValid then .accept (requestOnPins s.pins)
  else .idle

/-- A reset edge: `BUSY <- 0`, `RSP_VALID <- 0`, every other register `any`; an operation in progress is abandoned (R200,
R202). -/
def State.resetEdge (s : State) : State :=
  { s with
    busy := false
    op := Config.freeOp s.draws
    opr := Config.freeOpr s.draws
    len := Config.freeLen s.draws
    acc := Config.freeAcc s.draws
    cnt := drawnCnt s.draws
    rspValid := false
    rspStatus := Config.freeStatus s.draws
    rspCrc := Config.freeCrc s.draws
    rspYear := Config.freeYear s.draws
    rspMonth := Config.freeMonth s.draws
    rspOffset := Config.freeOffset s.draws
    rspDelta := Config.freeDelta s.draws
    wait := 0
    draws := s.draws + 1 }

/-- The operands are latched, `BUSY <- 1`, `RSP_VALID <- 0` (R151). -/
def State.latch (r : Request) (s : State) : State :=
  { s with op := r.op, opr := r.data, len := r.len, busy := true, rspValid := false }

/-- An accepting edge with a legal request: the latches, a free `T_OP`, and every register the edge leaves open `any`
(R151, R152). -/
def State.acceptEdge (r : Request) (s : State) : State :=
  ({ s.latch r with wait := Config.extraEdges r.op r.len r.data s.draws }).drawResults.drawWork.tick

/-- Acceptance: a `CHECKSUM` with a reserved length is refused (R105, R156). -/
def State.accept (r : Request) (s : State) : Host.Outcome State Fault Refusal :=
  if r.Legal then .next (s.acceptEdge r) else .refused (.reservedLength r.len)

/-- An edge of an operation in progress: `BUSY` stays 1, `RSP_VALID` stays as it is, one edge less to wait; the working
registers and the result registers that are not meaningful are `any` (R152, R154, U13). -/
def State.waitEdge (s : State) : State :=
  ({ s with wait := s.wait - 1 }).drawResults.drawWork.tick

/-- An edge at which nothing is accepted and nothing is in progress: the meaningful registers hold (R154). -/
def State.idleEdge (s : State) : State := s.drawResults.drawWork.tick

/-- The request in the latches, as a word (R76, R151). -/
def State.latched (s : State) : Request := { op := s.op, len := s.len, data := s.opr }

/-- The operation in progress (R152): what the decoder reads from the latches. -/
def State.latchedInstr (s : State) : Instr := decodeReq s.latched.word

/-! ## Placing an instruction for the host -/

/-- The request a numbered word stands for: 32 bits are the operand word of a `DECODE` (format ANN32), anything longer a
request word (format REQ); log 5, log 6. -/
def requestOfNumbered (nbits w : Nat) : Request :=
  if nbits ≤ 32 then { op := 1#1, len := 0#6, data := BitVec.ofNat 32 w }
  else requestOf (BitVec.ofNat 39 w)

/-- `s` with the request accepted and about to complete at the next edge, at which the host does not assert reset (log 5). -/
def State.placeRequest (r : Request) (s : State) : State :=
  { s.latch r with
    wait := 0
    script := match s.script with
      | [] => []
      | p :: ps => { p with rst := false } :: ps }

end Sys2Proof.Machine
end

