-- ==== Sys2Proof/Machine/AnnClasses.lean ====
section
/-! DEFINITION. The meanings of the four ANN32 rows with the good sentinel: what a `DECODE` of such a word does (R74; log 6). -/

namespace Sys2Proof.Machine

/-- `ANN.NONE`: under the residue condition `Ok` with delta 0, else `IntegrityFailure` (R74, R123, R129). -/
def execAnnNone (h : BitVec 11) (m : BitVec 7) (c : BitVec 8) (s : State) : Host.Outcome State Fault Refusal :=
  .next (s.respondUnderResidue (payloadOf h 0#2 m c) (.ok (interpret h m .none)))

/-- `ANN.DEC`: under the residue condition `Ok` with delta -1, else `IntegrityFailure` (R74, R123, R129). -/
def execAnnDec (h : BitVec 11) (m : BitVec 7) (c : BitVec 8) (s : State) : Host.Outcome State Fault Refusal :=
  .next (s.respondUnderResidue (payloadOf h 1#2 m c) (.ok (interpret h m .decrement)))

/-- `ANN.INC`: under the residue condition `Ok` with delta +1, else `IntegrityFailure` (R74, R123, R129). -/
def execAnnInc (h : BitVec 11) (m : BitVec 7) (c : BitVec 8) (s : State) : Host.Outcome State Fault Refusal :=
  .next (s.respondUnderResidue (payloadOf h 2#2 m c) (.ok (interpret h m .increment)))

/-- `ANN.ILLEGAL`: under the residue condition `IllegalDelta`, else `IntegrityFailure` (R74, R123, R128). -/
def execAnnIllegal (h : BitVec 11) (m : BitVec 7) (c : BitVec 8) (s : State) : Host.Outcome State Fault Refusal :=
  .next (s.respondUnderResidue (payloadOf h 3#2 m c) (.err .illegalDelta))

end Sys2Proof.Machine
end

