-- ==== Sys2Proof/Machine/ChecksumOp.lean ====
section
/-! DEFINITION. The meaning of `CHECKSUM` (40_checksum.md). -/

namespace Sys2Proof.Machine

/-- `CHECKSUM message, bit_length`: the engine runs `bit_length` iterations, and the response carries `ACC[31:24]` (R100 to
R103, R111). A reserved length has no meaning and is refused (R77, R105). -/
def execChecksum (len : BitVec 6) (message : Word) (s : State) : Host.Outcome State Fault Refusal :=
  if LegalLength len then
    let t := s.runEngine message len.toNat
    .next (t.respondCrc (engineResult t.acc))
  else .refused (.reservedLength len)

end Sys2Proof.Machine
end

