-- ==== Sys2Proof/Machine/DecodeOp.lean ====
section
/-! DEFINITION. The meaning of `DECODE` (41_decode.md). -/

namespace Sys2Proof.Machine

/-- `DECODE raw`: the ten steps in their order (R120 to R131) and the response of R136. `len` is not read (R77). A word that
fails the sentinel check is answered without saying whether the engine ran; for every other word the engine runs over the
payload with `bit_length` 28, and its result decides step 3. -/
def execDecode (_len : BitVec 6) (raw : Word) (s : State) : Host.Outcome State Fault Refusal :=
  if sentinelOf raw = Config.sentinel then
    .next ((s.runEngine ((payload28 raw).setWidth 32) Config.payloadW).respondDecode (decodeAnnouncement raw))
  else .next s.respondBadFormat

end Sys2Proof.Machine
end

