-- ==== Sys2Proof/Machine/NotAnnClasses.lean ====
section
/-! DEFINITION. The meanings of the four ANN32 rows without the sentinel: `BadFormat`, "regardless of the remaining bits"
(R75, R121; log 6). -/

namespace Sys2Proof.Machine

/-- `NOTANN.0xxx` (R121). -/
def execNotAnn0xxx (_sent : BitVec 3) (_rest : BitVec 28) (s : State) : Host.Outcome State Fault Refusal :=
  .next s.respondBadFormat

/-- `NOTANN.10xx` (R121). -/
def execNotAnn10xx (_sent : BitVec 2) (_rest : BitVec 28) (s : State) : Host.Outcome State Fault Refusal :=
  .next s.respondBadFormat

/-- `NOTANN.110x` (R121). -/
def execNotAnn110x (_sent : BitVec 1) (_rest : BitVec 28) (s : State) : Host.Outcome State Fault Refusal :=
  .next s.respondBadFormat

/-- `NOTANN.1110` (R121). -/
def execNotAnn1110 (_rest : BitVec 28) (s : State) : Host.Outcome State Fault Refusal :=
  .next s.respondBadFormat

end Sys2Proof.Machine
end

