-- ==== Sys2Proof/Machine/Dispatch.lean ====
section
/-! DEFINITION. One arm per row of the opcode table: what completing that operation does to the state. -/

namespace Sys2Proof.Machine

def exec (i : Instr) (s : State) : Host.Outcome State Fault Refusal :=
  match i with
  | .checksum len message => Sys2Proof.Machine.execChecksum len message s
  | .decode len raw => Sys2Proof.Machine.execDecode len raw s
  | .annNone h m c => Sys2Proof.Machine.execAnnNone h m c s
  | .annDec h m c => Sys2Proof.Machine.execAnnDec h m c s
  | .annInc h m c => Sys2Proof.Machine.execAnnInc h m c s
  | .annIllegal h m c => Sys2Proof.Machine.execAnnIllegal h m c s
  | .notAnn0xxx t r => Sys2Proof.Machine.execNotAnn0xxx t r s
  | .notAnn10xx t r => Sys2Proof.Machine.execNotAnn10xx t r s
  | .notAnn110x t r => Sys2Proof.Machine.execNotAnn110x t r s
  | .notAnn1110 r => Sys2Proof.Machine.execNotAnn1110 r s

end Sys2Proof.Machine
end

