-- ==== Sys2Proof/Machine/Step.lean ====
section
/-! DEFINITION. One step is one rising edge of `clk` (R27, R156; log 12). -/

namespace Sys2Proof.Machine

/-- One rising edge: the ports are sampled, and the edge has the effect of its kind (`State.edge`). At a completing edge the
operation in the latches is decoded and run (R152, R153). -/
def step (s : State) : Host.Outcome State Fault Refusal :=
  match s.edge with
  | .reset => .next s.sampled.resetEdge
  | .complete => exec s.latchedInstr s.sampled
  | .wait => .next s.sampled.waitEdge
  | .accept r => s.sampled.accept r
  | .idle => .next s.sampled.idleEdge

/-- `s` with a numbered instruction of the opcode table accepted and completing at the very next step (log 5). -/
def State.withFetchWord (s : State) (nbits w : Nat) : State := s.placeRequest (requestOfNumbered nbits w)

end Sys2Proof.Machine
end

