-- ==== Sys2Proof/Machine/Instances.lean ====
section
/-! DEFINITION. Several instances of the block in one system (R177): a list of states that share nothing (log 15). -/

namespace Sys2Proof.Machine

/-- `N_INST` instances side by side (R4, R177). -/
abbrev System := List State

/-- A rising edge at instance `k`; every other instance is left alone (R177). An index past the end is no instance. -/
def stepInstance (k : Nat) (sys : System) : Host.Outcome System Fault Refusal :=
  match sys[k]? with
  | none => .next sys
  | some s =>
    match step s with
    | .next t => .next (sys.set k t)
    | .fault f => .fault f
    | .refused r => .refused r

end Sys2Proof.Machine
end

