-- ==== Sys2Proof/Machine/Program.lean ====
section
/-! DEFINITION. What a request answers (R156 `resp`), what the host observes of a held response (R26, R33), and the run of a
host program, a list of requests (R156, D29). -/

namespace Sys2Proof.Machine

/-- The meaningful content of the result registers, as R33 writes it: `crc(c)`, `ok(..)` or `err(kind)`. -/
inductive Response where
  | crc (c : BitVec 8)
  | ok (a : Announced)
  | err (k : ErrorKind)
deriving DecidableEq, Repr

/-- The response of a decode outcome. -/
def responseOfDecode : DecodeResult → Response
  | .ok a => .ok a
  | .err k => .err k

/-- `resp(op, len, data)` (R156): a function of the request alone (R5); none for a reserved length (R105). -/
def respOf (r : Request) : Option Response :=
  if r.op = 0#1 then
    if LegalLength r.len then some (.crc (checksum r.data r.len.toNat)) else none
  else some (responseOfDecode (decodeAnnouncement r.data))

/-- The response the host reads from the meaningful result registers, none while `RSP_VALID` = 0 (R26, R33, R205). Which
operation it belongs to is `OP` (R154 speaks of "the completed operation"; log 10). -/
def State.response (s : State) : Option Response :=
  if s.rspValid then
    if s.op = 0#1 then some (.crc s.rspCrc)
    else match errorOfCode s.rspStatus with
      | some k => some (.err k)
      | none => some (.ok { year := s.rspYear.toNat, month := s.rspMonth.toNat,
                            offsetSeconds := s.rspOffset.toNat, delta := s.rspDelta.toInt })
  else none

/-- One request of a host program: it is presented at the next edge, then the host waits, presenting nothing, until the
operation completes, `T_OP` edges after the acceptance (R152, R153, R156). -/
def serve (r : Request) (s : State) : Host.Outcome State Fault Refusal :=
  match step { s with script := [presentPins r] } with
  | .next t => Host.Core.run Sys2Proof.core (t.wait + 1) t
  | .fault f => .fault f
  | .refused e => .refused e

/-- A host program from a state: the responses observed, in order, and the state at the end of the run; none if the machine
stopped or a completed request left no response (R156). -/
def runProgram : List Request → State → Option (List Response × State)
  | [], s => some ([], s)
  | r :: rs, s =>
    match serve r s with
    | .next t =>
      match t.response, runProgram rs t with
      | some x, some (xs, u) => some (x :: xs, u)
      | _, _ => none
    | .fault _ => none
    | .refused _ => none

end Sys2Proof.Machine
end

