-- ==== Sys2Proof/Safety.lean ====
section
/-! DEFINITION. What a good state of the block is, in the terms the statements use. "Gone wrong" is the refusal of a reserved
length alone; an error response is an ordinary result (R181). -/

namespace Sys2Proof.Machine

/-- What every state the block can reach satisfies: `CNT` within 0..32 (R33), no response held while an operation is in
progress (R25, R152), an accepted operation legal (R156), and a held response that of the latched request (R26, R57). -/
structure State.Inv (s : State) : Prop where
  cnt_le : s.cnt.toNat ≤ 32
  busy_no_response : s.busy = true → s.rspValid = false
  busy_legal : s.busy = true → s.latched.Legal
  held_response : s.rspValid = true → s.response = respOf s.latched
  crc_status : s.rspValid = true → s.op = 0#1 → s.rspStatus = statusOk

/-- The host asserts no reset at the next `n` edges. -/
def State.NoResetFor (n : Nat) (s : State) : Prop := ∀ p ∈ s.script.take n, p.rst = false

/-- The frame of every completion: the operation is over and a response is held (R153), and the latches are untouched
(R23). -/
structure Completed (s t : State) : Prop where
  busy : t.busy = false
  rspValid : t.rspValid = true
  op : t.op = s.op
  opr : t.opr = s.opr
  len : t.len = s.len

/-- The working registers hold the end of one checksum computation (R101, R102; log 8). -/
structure EngineLeft (message : Word) (bitLength : Nat) (t : State) : Prop where
  acc : t.acc = (engineRun bitLength (engineStart message bitLength)).acc
  cnt : t.cnt.toNat = bitLength

/-- The result registers hold a successful decode with these values (R136). -/
structure HoldsFields (year month offset : Nat) (delta : BitVec 2) (t : State) : Prop where
  status : t.rspStatus = 0#2
  year : t.rspYear.toNat = year
  month : t.rspMonth.toNat = month
  offset : t.rspOffset.toNat = offset
  delta : t.rspDelta = delta

end Sys2Proof.Machine
end

