-- ==== Sys2Proof/Certificates/Slice0/Obligations.lean ====
section
/-! DEFINITION. The statements about this machine, each named for what it states. A docstring names the rule of spec/ it
formalises; a statement about the model's own fields (`wait`, `draws`, `script`) names the log entry. -/

open Sys2Proof Sys2Proof.Machine

/-! ## Encodings -/

/-- Decoding the encoding of an instruction gives it back, as a word of its format and in the table's numbering (R70, R75,
R76; numbering: log 13). -/
def Obligations.DecodeOfEncodeIsTheInstruction : Prop :=
  ∀ i : Instr, decodeCode (encode i) = i ∧ decodeTableWord (encode i).nbits (encode i).bits = some i

/-- No bit of a word is dropped by the decoder: encoding what it reads gives the word back (R70: "every bit belongs to
exactly one field"). -/
def Obligations.EncodeOfDecodeIsTheWord : Prop :=
  (∀ w : ReqWord, encode (decodeReq w) = .req w) ∧ (∀ w : Word, encode (decodeAnn w) = .ann w)

/-- Among the eight ANN32 rows, mask and match as the opcode table prints them, exactly one fits a word, the row of the
instruction the decoder reads (30_encoding.md section 3). -/
def Obligations.EveryAnnouncementWordFitsExactlyOneRow : Prop :=
  ∀ w : Word, annRows.filter (fun r => r.fits w.toNat) = [(decodeAnn w).row]

/-- A few words of the spec's own vectors decode to the instructions they stand for (95_test_vectors.md sections 2 to 4). -/
def Obligations.SpecWordsDecodeToTheirInstructions : Prop :=
  decodeReq 0x40F003094D#39 = .decode 0#6 0xF003094D#32 ∧
  decodeReq 0x1C0003094D#39 = .checksum 28#6 0x0003094D#32 ∧
  decodeReq 0x7FF003094D#39 = .decode 63#6 0xF003094D#32 ∧
  decodeAnn 0xF003094D#32 = .annInc 1#11 9#7 0x4D#8 ∧
  decodeAnn 0xF2121CA0#32 = .annNone 265#11 28#7 0xA0#8 ∧
  decodeAnn 0xFF4CC8ED#32 = .annDec 1958#11 72#7 0xED#8 ∧
  decodeAnn 0xF1B39849#32 = .annIllegal 217#11 24#7 0x49#8 ∧
  decodeAnn 0x7FF0854C#32 = .notAnn0xxx 7#3 0xFF0854C#28 ∧
  decodeAnn 0xE003094D#32 = .notAnn1110 0x003094D#28

/-- R76: the layout of a request word, and the operation each value of `op` selects. -/
def Obligations.RequestWordLayout : Prop :=
  ∀ r : Request,
    r.word.extractLsb' 38 1 = r.op ∧ r.word.extractLsb' 32 6 = r.len ∧ r.word.extractLsb' 0 32 = r.data ∧
    requestOf r.word = r ∧
    (r.op = 0#1 → decodeReq r.word = .checksum r.len r.data) ∧
    (r.op = 1#1 → decodeReq r.word = .decode r.len r.data) ∧
    (decodeQuad 240 3 9 77).word = 0x40F003094D#39 ∧
    (Request.word { op := 0#1, len := 28#6, data := 0x003094D#32 }) = 0x1C0003094D#39

/-- R51: the octets of a dotted quad are assembled big-endian, the sentinel is the high nibble of the first octet, and a
word can decode only if that octet is at least 240. -/
def Obligations.QuadIsBigEndian : Prop :=
  (∀ a b c d : Octet,
    (quad a b c d).extractLsb' 24 8 = a ∧ (quad a b c d).extractLsb' 16 8 = b ∧
    (quad a b c d).extractLsb' 8 8 = c ∧ (quad a b c d).extractLsb' 0 8 = d ∧
    sentinelOf (quad a b c d) = a.extractLsb' 4 4 ∧
    (∀ v, decodeAnnouncement (quad a b c d) = .ok v → 240 ≤ a.toNat)) ∧
  quad 240 3 9 77 = 0xF003094D#32

/-- 30_encoding.md section 1: extracting the fields by masks and shifts is slicing the raw word. -/
def Obligations.FieldExtractionIsSlicing : Prop :=
  ∀ raw : Word,
    payload28 raw = raw.extractLsb' 0 28 ∧
    fields20 (payload28 raw) = raw.extractLsb' 8 20 ∧
    offsetMagnitude (fields20 (payload28 raw)) = raw.extractLsb' 8 7 ∧
    deltaCode (afterOffset (fields20 (payload28 raw))) = raw.extractLsb' 15 2 ∧
    horizonField (afterOffset (fields20 (payload28 raw))) = raw.extractLsb' 17 11

/-! ## The checksum engine -/

/-- R101: the accumulator starts from the seed and the message shifted to the top modulo 2^32, its low bits are the seed's,
and the iteration counter starts at 0. -/
def Obligations.EngineStartsFromSeedAndAlignedMessage : Prop :=
  ∀ (m : Word) (n : Nat), 1 ≤ n → n ≤ 32 →
    (engineStart m n).acc = 0x54a9abf8#32 ^^^ BitVec.ofNat 32 (m.toNat * 2 ^ (32 - n)) ∧
    (engineStart m n).cnt = 0#6 ∧
    (∀ i, i < 32 - n → (engineStart m n).acc.getLsbD i = (0x54a9abf8#32).getLsbD i)

/-- R102: one iteration of the engine; the exclusive or clears bit 31; and `bit_length` iterations are counted as that many
from the start, for every legal length. -/
def Obligations.EngineIterationRule : Prop :=
  (∀ e : EngineRegs,
    (e.acc.getLsbD 31 = true →
      (engineIterate e).acc = BitVec.ofNat 32 (2 * (e.acc ^^^ 0x97800000#32).toNat) ∧
      (e.acc ^^^ 0x97800000#32).getLsbD 31 = false) ∧
    (e.acc.getLsbD 31 = false → (engineIterate e).acc = BitVec.ofNat 32 (2 * e.acc.toNat)) ∧
    (engineIterate e).cnt = e.cnt + 1#6) ∧
  (∀ (m : Word) (n : Nat), 1 ≤ n → n ≤ 32 → (engineRun n (engineStart m n)).cnt.toNat = n)

/-- R53: message bits at or above `bit_length` are ignored. -/
def Obligations.ChecksumIgnoresHighMessageBits : Prop :=
  (∀ (m : Word) (n : Nat), 1 ≤ n → n ≤ 32 → checksum m n = checksum (BitVec.ofNat 32 (m.toNat % 2 ^ n)) n) ∧
  checksum 0xF003094D#32 28 = 0x80#8

/-- 40_checksum.md section 2: the checksum is affine in the message, flipping a message bit changes it by a constant, and
for 28 bits those constants are the printed syndromes. -/
def Obligations.ChecksumIsAffine : Prop :=
  (∀ (a b : Word) (n : Nat), 1 ≤ n → n ≤ 32 → checksum (a ^^^ b) n = checksum a n ^^^ checksum b n ^^^ checksum 0 n) ∧
  (∀ (a : Word) (n i : Nat), 1 ≤ n → n ≤ 32 → i < n →
    checksum (a ^^^ (1#32 <<< i)) n = checksum a n ^^^ (checksum (1#32 <<< i) n ^^^ checksum 0 n)) ∧
  (List.range 28).map (fun i => checksum (1#32 <<< i) 28 ^^^ checksum 0 28) =
    [0x2F, 0x5E, 0xBC, 0x57, 0xAE, 0x73, 0xE6, 0xE3, 0xE9, 0xFD, 0xD5, 0x85, 0x25, 0x4A,
     0x94, 0x07, 0x0E, 0x1C, 0x38, 0x70, 0xE0, 0xEF, 0xF1, 0xCD, 0xB5, 0x45, 0x8A, 0x3B]

/-- 40_checksum.md section 2, the closed form: the checksum is the remainder modulo the generator polynomial of the initial
accumulator, shifted by the number of bits that `bit_length` is short of, or beyond, 24. -/
def Obligations.ChecksumIsPolynomialRemainder : Prop :=
  ∀ (m : Word) (n : Nat), 1 ≤ n → n ≤ 32 →
    (n ≤ 24 → checksum m n = pmod ((engineStart m n).acc.setWidth 40 >>> (24 - n))) ∧
    (24 ≤ n → checksum m n = pmod ((engineStart m n).acc.setWidth 40 <<< (n - 24)))

/-- 40_checksum.md section 2: for every 20 field bits exactly one checksum byte gives the residue `0x80`, and it is the
checksum of the field bits. -/
def Obligations.ResidueHoldsForExactlyTheEmbeddedChecksum : Prop :=
  ∀ (f : BitVec 20) (c : BitVec 8),
    checksum ((f ++ c).setWidth 32) 28 = 0x80#8 ↔ c = checksum (f.setWidth 32) 20

/-- 40_checksum.md section 2: changing one or two payload bits of a word that passes the sentinel and the residue check makes
`decode` fail with `IntegrityFailure`; changing a sentinel bit makes it fail with `BadFormat`. -/
def Obligations.OneAndTwoBitErrorsAreDetected : Prop :=
  ∀ raw : Word, sentinelOf raw = 0b1111#4 → residueGood (payload28 raw) = true →
    (∀ i, i < 28 → decodeAnnouncement (raw ^^^ (1#32 <<< i)) = .err .integrityFailure) ∧
    (∀ i j, i < j → j < 28 →
      decodeAnnouncement (raw ^^^ (1#32 <<< i) ^^^ (1#32 <<< j)) = .err .integrityFailure) ∧
    (∀ i, 28 ≤ i → i < 32 → decodeAnnouncement (raw ^^^ (1#32 <<< i)) = .err .badFormat)

/-- 40_checksum.md section 2: every change of three bits is detected. -/
def Obligations.ThreeBitErrorsAreDetected : Prop :=
  ∀ (p : BitVec 28) (i j k : Nat), residueGood p = true → i < j → j < k → k < 28 →
    residueGood (p ^^^ (1#28 <<< i) ^^^ (1#28 <<< j) ^^^ (1#28 <<< k)) = false

/-- 40_checksum.md section 2: every change confined to a window of eight adjacent payload bits is detected. -/
def Obligations.BurstsOfEightBitsAreDetected : Prop :=
  ∀ (p : BitVec 28) (b : BitVec 8) (k : Nat), residueGood p = true → b ≠ 0#8 → k ≤ 20 →
    residueGood (p ^^^ (b.setWidth 28 <<< k)) = false

/-! ## CHECKSUM -/

/-- R111: a `CHECKSUM` with a legal length completes with its value and leaves the operand latches as they were (`Completed`).
The field registers become `any` and are left open; `ACC` and `CNT` are `ChecksumLeavesTheEndOfItsComputation`'s. -/
def Obligations.ChecksumCompletesWithItsValue : Prop :=
  ∀ (len : BitVec 6) (m : Word) (s : State), 1 ≤ len.toNat → len.toNat ≤ 32 →
    ∃ t, exec (.checksum len m) s = .next t ∧ Completed s t ∧ t.rspStatus = 0#2 ∧ t.rspCrc = checksum m len.toNat

/-- What a `CHECKSUM` leaves in the hidden registers: the end of the computation, whose top byte is the response. That the
registers still hold it after the completing edge is the model's choice (log 8). -/
def Obligations.ChecksumLeavesTheEndOfItsComputation : Prop :=
  ∀ (len : BitVec 6) (m : Word) (s : State), 1 ≤ len.toNat → len.toNat ≤ 32 →
    ∃ t, exec (.checksum len m) s = .next t ∧ EngineLeft m len.toNat t ∧ t.rspCrc = t.acc.extractLsb' 24 8

/-- R105: `CHECKSUM` runs for the lengths 1..32 and is refused for 0 and for 33..63. -/
def Obligations.ChecksumRunsExactlyForLengthsOneToThirtyTwo : Prop :=
  ∀ (len : BitVec 6) (m : Word) (s : State),
    (1 ≤ len.toNat ∧ len.toNat ≤ 32 → ∃ t, exec (.checksum len m) s = .next t ∧ t.rspCrc = checksum m len.toNat) ∧
    (len.toNat = 0 ∨ 33 ≤ len.toNat → exec (.checksum len m) s = .refused (.reservedLength len))

/-! ## DECODE -/

/-- R173: which of the four outcomes a word has, in every combination of the three conditions. -/
def Obligations.DecodeReportsTheEarliestError : Prop :=
  ∀ raw : Word,
    (raw.extractLsb' 28 4 ≠ 0b1111#4 → decodeAnnouncement raw = .err .badFormat) ∧
    (raw.extractLsb' 28 4 = 0b1111#4 → checksum (raw &&& 0x0FFFFFFF#32) 28 ≠ 0x80#8 →
      decodeAnnouncement raw = .err .integrityFailure) ∧
    (raw.extractLsb' 28 4 = 0b1111#4 → checksum (raw &&& 0x0FFFFFFF#32) 28 = 0x80#8 → raw.extractLsb' 15 2 = 3#2 →
      decodeAnnouncement raw = .err .illegalDelta) ∧
    (raw.extractLsb' 28 4 = 0b1111#4 → checksum (raw &&& 0x0FFFFFFF#32) 28 = 0x80#8 → raw.extractLsb' 15 2 ≠ 3#2 →
      ∃ v, decodeAnnouncement raw = .ok v)

/-- R129: the fields of a word that passes the three checks. -/
def Obligations.DecodeInterpretsItsFields : Prop :=
  ∀ (raw : Word) (v : Announced), decodeAnnouncement raw = .ok v →
    v.year = 1971 + ((raw.extractLsb' 17 11).toNat + 10) / 12 ∧
    v.month = 1 + ((raw.extractLsb' 17 11).toNat + 10) % 12 ∧
    v.offsetSeconds = (raw.extractLsb' 8 7).toNat ∧
    (raw.extractLsb' 15 2 = 0#2 → v.delta = 0) ∧
    (raw.extractLsb' 15 2 = 1#2 → v.delta = -1) ∧
    (raw.extractLsb' 15 2 = 2#2 → v.delta = 1)

/-- 41_decode.md section 1: the reachable values of a successful decode. -/
def Obligations.DecodedFieldsAreInRange : Prop :=
  ∀ (raw : Word) (v : Announced), decodeAnnouncement raw = .ok v →
    1971 ≤ v.year ∧ v.year ≤ 2142 ∧ 1 ≤ v.month ∧ v.month ≤ 12 ∧ v.offsetSeconds ≤ 127 ∧
    (v.delta = -1 ∨ v.delta = 0 ∨ v.delta = 1) ∧
    (v.year = 1971 → 11 ≤ v.month) ∧ (v.year = 2142 → v.month ≤ 6)

/-- R136: a `DECODE` completes for every word, whatever `len` is, with the response of its outcome and leaves the operand latches
as they were (`Completed`). `RSP_CRC`, and after an error the four field registers, become `any` and are left open; `ACC` and
`CNT` are stated by `DecodeActsAsTheRowOfItsWord` with the statements about the announcement rows. -/
def Obligations.DecodeCompletesWithItsOutcome : Prop :=
  ∀ (len : BitVec 6) (raw : Word) (s : State),
    ∃ t, exec (.decode len raw) s = .next t ∧ Completed s t ∧
      (∀ v, decodeAnnouncement raw = .ok v →
        HoldsFields v.year v.month v.offsetSeconds (if v.delta = 0 then 0b00#2 else if v.delta = 1 then 0b01#2 else 0b11#2) t ∧
        t.rspDelta.toInt = v.delta) ∧
      (decodeAnnouncement raw = .err .badFormat → t.rspStatus = 1#2) ∧
      (decodeAnnouncement raw = .err .integrityFailure → t.rspStatus = 2#2) ∧
      (decodeAnnouncement raw = .err .illegalDelta → t.rspStatus = 3#2)

/-- What a `DECODE` does is what the ANN32 row of its operand word does: every register, the free values included
(opcode_table.json, row DECODE; log 6). -/
def Obligations.DecodeActsAsTheRowOfItsWord : Prop :=
  ∀ (len : BitVec 6) (raw : Word) (s : State), exec (.decode len raw) s = exec (decodeAnn raw) s

/-- Words built by the derived producer function decode to the fields they were built from (95_test_vectors.md section 1.3,
property P1). -/
def Obligations.ProducedWordsDecodeToTheirFields : Prop :=
  ∀ (h : BitVec 11) (dc : BitVec 2) (om : BitVec 7),
    (dc = 3#2 → decodeAnnouncement (produce h dc om) = .err .illegalDelta) ∧
    (dc ≠ 3#2 → decodeAnnouncement (produce h dc om) =
      .ok { year := 1971 + (h.toNat + 10) / 12, month := 1 + (h.toNat + 10) % 12, offsetSeconds := om.toNat,
            delta := if dc = 0#2 then 0 else if dc = 1#2 then -1 else 1 })

/-- Every word that is neither `BadFormat` nor `IntegrityFailure` is what the producer function makes of its own three
fields (41_decode.md section 3). -/
def Obligations.AcceptedWordsAreTheProducedOnes : Prop :=
  ∀ raw : Word,
    (decodeAnnouncement raw ≠ .err .badFormat ∧ decodeAnnouncement raw ≠ .err .integrityFailure) ↔
      raw = produce (raw.extractLsb' 17 11) (raw.extractLsb' 15 2) (raw.extractLsb' 8 7)

/-! ## The announcement rows -/

/-- The rows `ANN.NONE`, `ANN.DEC` and `ANN.INC` complete: under the residue condition with their fields and delta 0, -1,
+1, else with `IntegrityFailure` (opcode_table.json; frame: `Completed`; that the hidden registers hold the end of the
computation is the model's choice: log 8; that the rows are instructions: log 6). -/
def Obligations.LegalAnnouncementRowsComplete : Prop :=
  ∀ (h : BitVec 11) (m : BitVec 7) (c : BitVec 8) (s : State),
    (∃ t, exec (.annNone h m c) s = .next t ∧ Completed s t ∧ EngineLeft ((h ++ 0#2 ++ m ++ c).setWidth 32) 28 t ∧
      (checksum ((h ++ 0#2 ++ m ++ c).setWidth 32) 28 = 0x80#8 →
        HoldsFields (1971 + (h.toNat + 10) / 12) (1 + (h.toNat + 10) % 12) m.toNat 0b00#2 t) ∧
      (checksum ((h ++ 0#2 ++ m ++ c).setWidth 32) 28 ≠ 0x80#8 → t.rspStatus = 2#2)) ∧
    (∃ t, exec (.annDec h m c) s = .next t ∧ Completed s t ∧ EngineLeft ((h ++ 1#2 ++ m ++ c).setWidth 32) 28 t ∧
      (checksum ((h ++ 1#2 ++ m ++ c).setWidth 32) 28 = 0x80#8 →
        HoldsFields (1971 + (h.toNat + 10) / 12) (1 + (h.toNat + 10) % 12) m.toNat 0b11#2 t) ∧
      (checksum ((h ++ 1#2 ++ m ++ c).setWidth 32) 28 ≠ 0x80#8 → t.rspStatus = 2#2)) ∧
    (∃ t, exec (.annInc h m c) s = .next t ∧ Completed s t ∧ EngineLeft ((h ++ 2#2 ++ m ++ c).setWidth 32) 28 t ∧
      (checksum ((h ++ 2#2 ++ m ++ c).setWidth 32) 28 = 0x80#8 →
        HoldsFields (1971 + (h.toNat + 10) / 12) (1 + (h.toNat + 10) % 12) m.toNat 0b01#2 t) ∧
      (checksum ((h ++ 2#2 ++ m ++ c).setWidth 32) 28 ≠ 0x80#8 → t.rspStatus = 2#2))

/-- The row `ANN.ILLEGAL` completes with `IllegalDelta` under the residue condition, else with `IntegrityFailure`
(opcode_table.json; frame: `Completed`; the model's choices: log 6, log 8). -/
def Obligations.IllegalDeltaRowCompletes : Prop :=
  ∀ (h : BitVec 11) (m : BitVec 7) (c : BitVec 8) (s : State),
    ∃ t, exec (.annIllegal h m c) s = .next t ∧ Completed s t ∧ EngineLeft ((h ++ 3#2 ++ m ++ c).setWidth 32) 28 t ∧
      (checksum ((h ++ 3#2 ++ m ++ c).setWidth 32) 28 = 0x80#8 → t.rspStatus = 3#2) ∧
      (checksum ((h ++ 3#2 ++ m ++ c).setWidth 32) 28 ≠ 0x80#8 → t.rspStatus = 2#2)

/-- The four rows without the sentinel complete with `BadFormat`, whatever the other bits are (opcode_table.json; frame:
`Completed`; the model's choices: `ACC` and `CNT` are left open, `CNT` within its range, log 9, log 11; log 6). -/
def Obligations.RowsWithoutSentinelComplete : Prop :=
  ∀ (x : BitVec 3) (y : BitVec 2) (z : BitVec 1) (r : BitVec 28) (s : State),
    (∃ t, exec (.notAnn0xxx x r) s = .next t ∧ Completed s t ∧ t.rspStatus = 1#2 ∧ t.cnt.toNat ≤ 32) ∧
    (∃ t, exec (.notAnn10xx y r) s = .next t ∧ Completed s t ∧ t.rspStatus = 1#2 ∧ t.cnt.toNat ≤ 32) ∧
    (∃ t, exec (.notAnn110x z r) s = .next t ∧ Completed s t ∧ t.rspStatus = 1#2 ∧ t.cnt.toNat ≤ 32) ∧
    (∃ t, exec (.notAnn1110 r) s = .next t ∧ Completed s t ∧ t.rspStatus = 1#2 ∧ t.cnt.toNat ≤ 32)

/-- What the completion of any instruction does to the model's own fields (log 1, log 2, log 4): what is left to wait and the
host's coming port levels stand, and one draw of free values is made. -/
def Obligations.CompletionLeavesTheModelsOwnFields : Prop :=
  ∀ (i : Instr) (s t : State), exec i s = .next t → t.wait = s.wait ∧ t.script = s.script ∧ t.draws = s.draws + 1

/-! ## The clock edges -/

/-- Every step samples the input ports once: the host's levels of the next edge become those of the edge after it (the model's
choice of how the host is held in the state: log 4). -/
def Obligations.EveryStepSamplesThePortsOnce : Prop :=
  ∀ s t : State, step s = .next t → t.script = s.script.tail

/-- At a completing edge the step is `exec` of the instruction the decoder reads from the latches, at the state whose next
port levels have been sampled (R152, R153; `wait`: log 1). -/
def Obligations.StepRunsTheLatchedOperation : Prop :=
  ∀ s : State, s.pins.rst = false → s.busy = true → s.wait = 0 →
    step s = exec (decodeReq s.latched.word) { s with script := s.script.tail }

/-- An instruction of the opcode table placed by `withFetchWord` is run by the very next step: a request word as itself, an
announcement word as the operand of a `DECODE` (the model's choice: log 5, log 6). -/
def Obligations.StepRunsThePlacedWord : Prop :=
  ∀ (s : State) (nbits w : Nat) (i : Instr), decodeTableWord nbits w = some i →
    step (s.withFetchWord nbits w) = exec i (s.withFetchWord nbits w).sampled

/-- R151: the effects of acceptance, at an edge with `rst` = 0, `req_valid` = 1 and `BUSY` = 0, for a legal request. -/
def Obligations.AcceptanceLatchesTheRequest : Prop :=
  ∀ (s : State) (p : Pins) (ps : List Pins), s.script = p :: ps → p.rst = false → p.reqValid = true → s.busy = false →
    (p.reqOp = 0#1 → 1 ≤ p.reqLen.toNat ∧ p.reqLen.toNat ≤ 32) →
    ∃ t, step s = .next t ∧ t.op = p.reqOp ∧ t.opr = p.reqData ∧ t.len = p.reqLen ∧ t.busy = true ∧
      t.rspValid = false

/-- R77, at the ports: a `CHECKSUM` request with a reserved length is refused at the edge that would accept it (that it is
refused there: R156, log 7), one with a length 1..32 is accepted; a `DECODE` request is accepted with every length. The length
has no effect on a `DECODE`: its meaning does the same for every two lengths, and an edge that completes a `DECODE` does the
same whatever `LEN` holds, but that `LEN` keeps holding it. -/
def Obligations.ReservedLengthIsRefusedAtAcceptance : Prop :=
  (∀ (s : State) (p : Pins) (ps : List Pins), s.script = p :: ps → p.rst = false → p.reqValid = true → s.busy = false →
    (p.reqOp = 0#1 → p.reqLen.toNat = 0 ∨ 33 ≤ p.reqLen.toNat → step s = .refused (.reservedLength p.reqLen)) ∧
    (p.reqOp = 0#1 → 1 ≤ p.reqLen.toNat ∧ p.reqLen.toNat ≤ 32 → ∃ t, step s = .next t ∧ t.busy = true) ∧
    (p.reqOp = 1#1 → ∃ t, step s = .next t ∧ t.busy = true)) ∧
  (∀ (l₁ l₂ : BitVec 6) (raw : Word) (s : State), exec (.decode l₁ raw) s = exec (.decode l₂ raw) s) ∧
  (∀ (s : State) (l : BitVec 6), s.edge = .complete → s.op = 1#1 →
    ∃ t, step s = .next t ∧ step { s with len := l } = .next { t with len := l })

/-- R150: when an edge accepts a request; at every other edge the `req_op`, `req_len` and `req_data` ports are not looked at,
and while `BUSY` = 1 or `rst` = 1 not even `req_valid` is: a request presented then leaves no trace. -/
def Obligations.OnlyAcceptedRequestsLeaveATrace : Prop :=
  (∀ (s : State) (r : Request), s.edge = .accept r ↔
    s.pins.rst = false ∧ s.pins.reqValid = true ∧ s.busy = false ∧ r = ⟨s.pins.reqOp, s.pins.reqLen, s.pins.reqData⟩) ∧
  (∀ (s : State) (p q : Pins) (ps : List Pins), p.rst = q.rst →
    (p.rst = true ∨ s.busy = true ∨ (p.reqValid = false ∧ q.reqValid = false)) →
    step { s with script := p :: ps } = step { s with script := q :: ps })

/-- R152: while the operation goes on `BUSY` stays 1, `RSP_VALID` stays 0 and the latches stand (`wait`: log 1). -/
def Obligations.AnOperationInProgressShowsNothing : Prop :=
  ∀ s : State, s.pins.rst = false → s.busy = true → s.rspValid = false → s.wait ≠ 0 →
    ∃ t, step s = .next t ∧ t.busy = true ∧ t.rspValid = false ∧ t.latched = s.latched ∧ t.wait + 1 = s.wait

/-- R154: with no acceptance and no reset, `RSP_VALID` and every meaningful result register keep their values, and so does
what the host observes. -/
def Obligations.AHeldResponseIsStable : Prop :=
  ∀ s : State, s.pins.rst = false → s.busy = false → s.pins.reqValid = false →
    ∃ t, step s = .next t ∧ t.busy = false ∧ t.rspValid = s.rspValid ∧ t.latched = s.latched ∧
      (s.rspValid = true → t.rspStatus = s.rspStatus) ∧
      (s.rspValid = true → s.op = 0#1 → t.rspCrc = s.rspCrc) ∧
      (s.rspValid = true → s.op = 1#1 → s.rspStatus = 0#2 →
        t.rspYear = s.rspYear ∧ t.rspMonth = s.rspMonth ∧ t.rspOffset = s.rspOffset ∧ t.rspDelta = s.rspDelta) ∧
      t.response = s.response

/-- R202: a reset edge, whatever the block was doing and whatever the other ports hold, leaves `BUSY` = 0 and `RSP_VALID` =
0; the operation in progress is abandoned: the next edge completes nothing and no response is held. -/
def Obligations.ResetAbandonsTheOperation : Prop :=
  ∀ s : State, s.pins.rst = true →
    ∃ t, step s = .next t ∧ t.busy = false ∧ t.rspValid = false ∧ t.response = none ∧ t.edge ≠ .complete ∧ t.edge ≠ .wait

/-- The values the spec gives the state after reset (R32). -/
def Obligations.ResetLeavesTheBlockReady : Prop :=
  State.reset.busy = false ∧ State.reset.rspValid = false ∧ State.reset.outPins.reqReady = true ∧
    State.reset.outPins.rspValid = false ∧ State.reset.response = none

/-- R25: `BUSY` is set only at acceptance, cleared only at completion or reset, shown as `req_ready`, and 0 after reset. -/
def Obligations.BusyFollowsAcceptanceAndCompletion : Prop :=
  (∀ s t : State, step s = .next t →
    (t.busy = true ↔
      (∃ r, s.edge = .accept r) ∨ (s.busy = true ∧ s.edge ≠ .complete ∧ s.edge ≠ .reset))) ∧
  (∀ s : State, s.outPins.reqReady = !s.busy) ∧
  State.reset.busy = false

/-- R23: the three latches are written only at acceptance, from the ports (they are open after a reset edge), and no port
shows them. -/
def Obligations.LatchesChangeOnlyAtAcceptance : Prop :=
  (∀ s t : State, step s = .next t → s.pins.rst = false →
    (s.busy = false ∧ s.pins.reqValid = true ∧ t.latched = ⟨s.pins.reqOp, s.pins.reqLen, s.pins.reqData⟩) ∨
    (¬ (s.busy = false ∧ s.pins.reqValid = true) ∧ t.latched = s.latched)) ∧
  (∀ (s : State) (r : Request), ({ s with op := r.op, opr := r.data, len := r.len }).outPins = s.outPins)

/-- The output ports do not depend on the hidden registers, nor on the model's own fields (10_state.md section 8). -/
def Obligations.HiddenRegistersDoNotShow : Prop :=
  ∀ (s : State) (o : BitVec 1) (d a : Word) (l c : BitVec 6) (w n : Nat) (ps : List Pins),
    ({ s with op := o, opr := d, len := l, acc := a, cnt := c, wait := w, draws := n, script := ps }).outPins = s.outPins

/-- R5: the response of a request is a function of that request alone: it is `resp` of the request, whatever the block did
before and whatever any register holds. -/
def Obligations.ResponsesDependOnTheRequestAlone : Prop :=
  ∀ (r : Request) (s t : State), s.latched = r → exec (decodeReq r.word) s = .next t → t.response = respOf r

/-! ## The whole machine -/

/-- Every step keeps the invariant of the block: `CNT` in range, no response held while busy, an accepted operation legal,
and a held response that of the most recently accepted request (R26, R33, R57). -/
def Obligations.EveryStepKeepsTheInvariant : Prop :=
  ∀ s t : State, s.Inv → step s = .next t → t.Inv

/-- The state after reset satisfies the invariant (the zeros of the open registers are the model's choice, log 3; the
invariant asks nothing of them but the range of `CNT`). -/
def Obligations.ResetSatisfiesTheInvariant : Prop := State.reset.Inv

/-- The machine has exactly one refusal, an accepting edge with a reserved `CHECKSUM` length, and no fault (60_exceptions.md
section 8). -/
def Obligations.OnlyReservedLengthsAreRefused : Prop :=
  ∀ s : State, s.Inv →
    (∀ f, step s ≠ .fault f) ∧
    (∀ e, step s = .refused e ↔
      (s.pins.rst = false ∧ s.busy = false ∧ s.pins.reqValid = true ∧ s.pins.reqOp = 0#1 ∧
        (s.pins.reqLen.toNat = 0 ∨ 33 ≤ s.pins.reqLen.toNat) ∧ e = .reservedLength s.pins.reqLen))

/-- What the meaningful field registers can hold (10_state.md section 5): in particular `RSP_DELTA` is never `0b10`. -/
def Obligations.MeaningfulFieldsAreLegal : Prop :=
  ∀ s : State, s.Inv → s.fieldsReadable = true →
    1971 ≤ s.rspYear.toNat ∧ s.rspYear.toNat ≤ 2142 ∧ 1 ≤ s.rspMonth.toNat ∧ s.rspMonth.toNat ≤ 12 ∧
      s.rspDelta ≠ 0b10#2

/-- Every accepted request completes unless reset intervenes: after `wait + 1` edges without reset the block is ready again
and holds the response of the request that was in progress (70_reset_and_hazards.md section 4; `wait`: log 1). -/
def Obligations.AcceptedRequestsComplete : Prop :=
  ∀ s : State, s.Inv → s.busy = true → s.NoResetFor (s.wait + 1) →
    ∃ t, Host.Core.run Sys2Proof.core (s.wait + 1) s = .next t ∧ t.busy = false ∧ t.rspValid = true ∧
      t.latched = s.latched ∧ t.response = respOf s.latched

/-- A host program of legal requests, from any state in which the block is ready, runs to its end, and what the host observes
is the list of the responses of its requests (42_issue_and_completion.md section 4). That the host presents a request at the
next edge and then nothing until the operation has completed is the model's choice (`serve`, log 4). -/
def Obligations.ProgramsObserveTheResponsesOfTheirRequests : Prop :=
  ∀ (prog : List Request) (s : State), s.busy = false → (∀ r ∈ prog, r.Legal) →
    ∃ (obs : List Response) (t : State), runProgram prog s = some (obs, t) ∧ obs.map some = prog.map respOf ∧
      t.busy = false ∧ (prog ≠ [] → t.rspValid = true)

/-- Instances share no state (60_exceptions.md section 6): an edge at one leaves every other as it was and does to that one
what a step of it alone does. That a system is a list of states and that its step is an edge at one of them is the model's
choice (log 15). -/
def Obligations.InstancesShareNothing : Prop :=
  ∀ (sys : System) (k : Nat) (s : State), sys[k]? = some s →
    (∀ t, step s = .next t → ∃ sys', stepInstance k sys = .next sys' ∧ sys'[k]? = some t ∧
      sys'.length = sys.length ∧ ∀ j, j ≠ k → sys'[j]? = sys[j]?) ∧
    (∀ e, step s = .refused e → stepInstance k sys = .refused e)
end

