-- ==== Sys2Proof/Laws/State.lean ====
section
/-! SUPPORT. One lemma for each field a state update fixes, true by definition, so that no proof unfolds a record update.
A field the update draws freely has no lemma: nothing is to be proved of it. -/

namespace Sys2Proof.Machine

/-! ### `State.sampled` -/

@[simp] theorem State.sampled_busy (s : State) : s.sampled.busy = s.busy := rfl
@[simp] theorem State.sampled_op (s : State) : s.sampled.op = s.op := rfl
@[simp] theorem State.sampled_opr (s : State) : s.sampled.opr = s.opr := rfl
@[simp] theorem State.sampled_len (s : State) : s.sampled.len = s.len := rfl
@[simp] theorem State.sampled_acc (s : State) : s.sampled.acc = s.acc := rfl
@[simp] theorem State.sampled_cnt (s : State) : s.sampled.cnt = s.cnt := rfl
@[simp] theorem State.sampled_rspValid (s : State) : s.sampled.rspValid = s.rspValid := rfl
@[simp] theorem State.sampled_rspStatus (s : State) : s.sampled.rspStatus = s.rspStatus := rfl
@[simp] theorem State.sampled_rspCrc (s : State) : s.sampled.rspCrc = s.rspCrc := rfl
@[simp] theorem State.sampled_rspYear (s : State) : s.sampled.rspYear = s.rspYear := rfl
@[simp] theorem State.sampled_rspMonth (s : State) : s.sampled.rspMonth = s.rspMonth := rfl
@[simp] theorem State.sampled_rspOffset (s : State) : s.sampled.rspOffset = s.rspOffset := rfl
@[simp] theorem State.sampled_rspDelta (s : State) : s.sampled.rspDelta = s.rspDelta := rfl
@[simp] theorem State.sampled_wait (s : State) : s.sampled.wait = s.wait := rfl
@[simp] theorem State.sampled_draws (s : State) : s.sampled.draws = s.draws := rfl
@[simp] theorem State.sampled_script (s : State) : s.sampled.script = s.script.tail := rfl

/-! ### `State.drawWork` -/

@[simp] theorem State.drawWork_busy (s : State) : s.drawWork.busy = s.busy := rfl
@[simp] theorem State.drawWork_op (s : State) : s.drawWork.op = s.op := rfl
@[simp] theorem State.drawWork_opr (s : State) : s.drawWork.opr = s.opr := rfl
@[simp] theorem State.drawWork_len (s : State) : s.drawWork.len = s.len := rfl
@[simp] theorem State.drawWork_acc (s : State) : s.drawWork.acc = Config.freeAcc s.draws := rfl
@[simp] theorem State.drawWork_cnt (s : State) : s.drawWork.cnt = drawnCnt s.draws := rfl
@[simp] theorem State.drawWork_rspValid (s : State) : s.drawWork.rspValid = s.rspValid := rfl
@[simp] theorem State.drawWork_rspStatus (s : State) : s.drawWork.rspStatus = s.rspStatus := rfl
@[simp] theorem State.drawWork_rspCrc (s : State) : s.drawWork.rspCrc = s.rspCrc := rfl
@[simp] theorem State.drawWork_rspYear (s : State) : s.drawWork.rspYear = s.rspYear := rfl
@[simp] theorem State.drawWork_rspMonth (s : State) : s.drawWork.rspMonth = s.rspMonth := rfl
@[simp] theorem State.drawWork_rspOffset (s : State) : s.drawWork.rspOffset = s.rspOffset := rfl
@[simp] theorem State.drawWork_rspDelta (s : State) : s.drawWork.rspDelta = s.rspDelta := rfl
@[simp] theorem State.drawWork_wait (s : State) : s.drawWork.wait = s.wait := rfl
@[simp] theorem State.drawWork_draws (s : State) : s.drawWork.draws = s.draws := rfl
@[simp] theorem State.drawWork_script (s : State) : s.drawWork.script = s.script := rfl

/-! ### `State.drawResults` -/

@[simp] theorem State.drawResults_busy (s : State) : s.drawResults.busy = s.busy := rfl
@[simp] theorem State.drawResults_op (s : State) : s.drawResults.op = s.op := rfl
@[simp] theorem State.drawResults_opr (s : State) : s.drawResults.opr = s.opr := rfl
@[simp] theorem State.drawResults_len (s : State) : s.drawResults.len = s.len := rfl
@[simp] theorem State.drawResults_acc (s : State) : s.drawResults.acc = s.acc := rfl
@[simp] theorem State.drawResults_cnt (s : State) : s.drawResults.cnt = s.cnt := rfl
@[simp] theorem State.drawResults_rspValid (s : State) : s.drawResults.rspValid = s.rspValid := rfl
@[simp] theorem State.drawResults_wait (s : State) : s.drawResults.wait = s.wait := rfl
@[simp] theorem State.drawResults_draws (s : State) : s.drawResults.draws = s.draws := rfl
@[simp] theorem State.drawResults_script (s : State) : s.drawResults.script = s.script := rfl

/-! ### `State.tick` -/

@[simp] theorem State.tick_busy (s : State) : s.tick.busy = s.busy := rfl
@[simp] theorem State.tick_op (s : State) : s.tick.op = s.op := rfl
@[simp] theorem State.tick_opr (s : State) : s.tick.opr = s.opr := rfl
@[simp] theorem State.tick_len (s : State) : s.tick.len = s.len := rfl
@[simp] theorem State.tick_acc (s : State) : s.tick.acc = s.acc := rfl
@[simp] theorem State.tick_cnt (s : State) : s.tick.cnt = s.cnt := rfl
@[simp] theorem State.tick_rspValid (s : State) : s.tick.rspValid = s.rspValid := rfl
@[simp] theorem State.tick_rspStatus (s : State) : s.tick.rspStatus = s.rspStatus := rfl
@[simp] theorem State.tick_rspCrc (s : State) : s.tick.rspCrc = s.rspCrc := rfl
@[simp] theorem State.tick_rspYear (s : State) : s.tick.rspYear = s.rspYear := rfl
@[simp] theorem State.tick_rspMonth (s : State) : s.tick.rspMonth = s.rspMonth := rfl
@[simp] theorem State.tick_rspOffset (s : State) : s.tick.rspOffset = s.rspOffset := rfl
@[simp] theorem State.tick_rspDelta (s : State) : s.tick.rspDelta = s.rspDelta := rfl
@[simp] theorem State.tick_wait (s : State) : s.tick.wait = s.wait := rfl
@[simp] theorem State.tick_draws (s : State) : s.tick.draws = s.draws + 1 := rfl
@[simp] theorem State.tick_script (s : State) : s.tick.script = s.script := rfl

/-! ### `State.runEngine` -/

@[simp] theorem State.runEngine_busy (m : Word) (n : Nat) (s : State) : (s.runEngine m n).busy = s.busy := rfl
@[simp] theorem State.runEngine_op (m : Word) (n : Nat) (s : State) : (s.runEngine m n).op = s.op := rfl
@[simp] theorem State.runEngine_opr (m : Word) (n : Nat) (s : State) : (s.runEngine m n).opr = s.opr := rfl
@[simp] theorem State.runEngine_len (m : Word) (n : Nat) (s : State) : (s.runEngine m n).len = s.len := rfl
@[simp] theorem State.runEngine_acc (m : Word) (n : Nat) (s : State) : (s.runEngine m n).acc = (engineRun n (engineStart m n)).acc := rfl
@[simp] theorem State.runEngine_cnt (m : Word) (n : Nat) (s : State) : (s.runEngine m n).cnt = (engineRun n (engineStart m n)).cnt := rfl
@[simp] theorem State.runEngine_rspValid (m : Word) (n : Nat) (s : State) : (s.runEngine m n).rspValid = s.rspValid := rfl
@[simp] theorem State.runEngine_rspStatus (m : Word) (n : Nat) (s : State) : (s.runEngine m n).rspStatus = s.rspStatus := rfl
@[simp] theorem State.runEngine_rspCrc (m : Word) (n : Nat) (s : State) : (s.runEngine m n).rspCrc = s.rspCrc := rfl
@[simp] theorem State.runEngine_rspYear (m : Word) (n : Nat) (s : State) : (s.runEngine m n).rspYear = s.rspYear := rfl
@[simp] theorem State.runEngine_rspMonth (m : Word) (n : Nat) (s : State) : (s.runEngine m n).rspMonth = s.rspMonth := rfl
@[simp] theorem State.runEngine_rspOffset (m : Word) (n : Nat) (s : State) : (s.runEngine m n).rspOffset = s.rspOffset := rfl
@[simp] theorem State.runEngine_rspDelta (m : Word) (n : Nat) (s : State) : (s.runEngine m n).rspDelta = s.rspDelta := rfl
@[simp] theorem State.runEngine_wait (m : Word) (n : Nat) (s : State) : (s.runEngine m n).wait = s.wait := rfl
@[simp] theorem State.runEngine_draws (m : Word) (n : Nat) (s : State) : (s.runEngine m n).draws = s.draws := rfl
@[simp] theorem State.runEngine_script (m : Word) (n : Nat) (s : State) : (s.runEngine m n).script = s.script := rfl

/-! ### `State.respondCrc` -/

@[simp] theorem State.respondCrc_busy (c : BitVec 8) (s : State) : (s.respondCrc c).busy = false := rfl
@[simp] theorem State.respondCrc_op (c : BitVec 8) (s : State) : (s.respondCrc c).op = s.op := rfl
@[simp] theorem State.respondCrc_opr (c : BitVec 8) (s : State) : (s.respondCrc c).opr = s.opr := rfl
@[simp] theorem State.respondCrc_len (c : BitVec 8) (s : State) : (s.respondCrc c).len = s.len := rfl
@[simp] theorem State.respondCrc_acc (c : BitVec 8) (s : State) : (s.respondCrc c).acc = s.acc := rfl
@[simp] theorem State.respondCrc_cnt (c : BitVec 8) (s : State) : (s.respondCrc c).cnt = s.cnt := rfl
@[simp] theorem State.respondCrc_rspValid (c : BitVec 8) (s : State) : (s.respondCrc c).rspValid = true := rfl
@[simp] theorem State.respondCrc_rspStatus (c : BitVec 8) (s : State) : (s.respondCrc c).rspStatus = statusOk := rfl
@[simp] theorem State.respondCrc_rspCrc (c : BitVec 8) (s : State) : (s.respondCrc c).rspCrc = c := rfl
@[simp] theorem State.respondCrc_wait (c : BitVec 8) (s : State) : (s.respondCrc c).wait = s.wait := rfl
@[simp] theorem State.respondCrc_draws (c : BitVec 8) (s : State) : (s.respondCrc c).draws = s.draws + 1 := rfl
@[simp] theorem State.respondCrc_script (c : BitVec 8) (s : State) : (s.respondCrc c).script = s.script := rfl

/-! ### `State.respondOk` -/

@[simp] theorem State.respondOk_busy (a : Announced) (s : State) : (s.respondOk a).busy = false := rfl
@[simp] theorem State.respondOk_op (a : Announced) (s : State) : (s.respondOk a).op = s.op := rfl
@[simp] theorem State.respondOk_opr (a : Announced) (s : State) : (s.respondOk a).opr = s.opr := rfl
@[simp] theorem State.respondOk_len (a : Announced) (s : State) : (s.respondOk a).len = s.len := rfl
@[simp] theorem State.respondOk_acc (a : Announced) (s : State) : (s.respondOk a).acc = s.acc := rfl
@[simp] theorem State.respondOk_cnt (a : Announced) (s : State) : (s.respondOk a).cnt = s.cnt := rfl
@[simp] theorem State.respondOk_rspValid (a : Announced) (s : State) : (s.respondOk a).rspValid = true := rfl
@[simp] theorem State.respondOk_rspStatus (a : Announced) (s : State) : (s.respondOk a).rspStatus = statusOk := rfl
@[simp] theorem State.respondOk_rspYear (a : Announced) (s : State) : (s.respondOk a).rspYear = BitVec.ofNat 12 a.year := rfl
@[simp] theorem State.respondOk_rspMonth (a : Announced) (s : State) : (s.respondOk a).rspMonth = BitVec.ofNat 4 a.month := rfl
@[simp] theorem State.respondOk_rspOffset (a : Announced) (s : State) : (s.respondOk a).rspOffset = BitVec.ofNat 7 a.offsetSeconds := rfl
@[simp] theorem State.respondOk_rspDelta (a : Announced) (s : State) : (s.respondOk a).rspDelta = deltaBits a.delta := rfl
@[simp] theorem State.respondOk_wait (a : Announced) (s : State) : (s.respondOk a).wait = s.wait := rfl
@[simp] theorem State.respondOk_draws (a : Announced) (s : State) : (s.respondOk a).draws = s.draws + 1 := rfl
@[simp] theorem State.respondOk_script (a : Announced) (s : State) : (s.respondOk a).script = s.script := rfl

/-! ### `State.raiseError` -/

@[simp] theorem State.raiseError_busy (k : ErrorKind) (s : State) : (s.raiseError k).busy = false := rfl
@[simp] theorem State.raiseError_op (k : ErrorKind) (s : State) : (s.raiseError k).op = s.op := rfl
@[simp] theorem State.raiseError_opr (k : ErrorKind) (s : State) : (s.raiseError k).opr = s.opr := rfl
@[simp] theorem State.raiseError_len (k : ErrorKind) (s : State) : (s.raiseError k).len = s.len := rfl
@[simp] theorem State.raiseError_acc (k : ErrorKind) (s : State) : (s.raiseError k).acc = s.acc := rfl
@[simp] theorem State.raiseError_cnt (k : ErrorKind) (s : State) : (s.raiseError k).cnt = s.cnt := rfl
@[simp] theorem State.raiseError_rspValid (k : ErrorKind) (s : State) : (s.raiseError k).rspValid = true := rfl
@[simp] theorem State.raiseError_rspStatus (k : ErrorKind) (s : State) : (s.raiseError k).rspStatus = errorCode k := rfl
@[simp] theorem State.raiseError_wait (k : ErrorKind) (s : State) : (s.raiseError k).wait = s.wait := rfl
@[simp] theorem State.raiseError_draws (k : ErrorKind) (s : State) : (s.raiseError k).draws = s.draws + 1 := rfl
@[simp] theorem State.raiseError_script (k : ErrorKind) (s : State) : (s.raiseError k).script = s.script := rfl

/-! ### `State.resetEdge` -/

@[simp] theorem State.resetEdge_busy (s : State) : s.resetEdge.busy = false := rfl
@[simp] theorem State.resetEdge_cnt (s : State) : s.resetEdge.cnt = drawnCnt s.draws := rfl
@[simp] theorem State.resetEdge_rspValid (s : State) : s.resetEdge.rspValid = false := rfl
@[simp] theorem State.resetEdge_wait (s : State) : s.resetEdge.wait = 0 := rfl
@[simp] theorem State.resetEdge_draws (s : State) : s.resetEdge.draws = s.draws + 1 := rfl
@[simp] theorem State.resetEdge_script (s : State) : s.resetEdge.script = s.script := rfl

/-! ### `State.latch` -/

@[simp] theorem State.latch_busy (r : Request) (s : State) : (s.latch r).busy = true := rfl
@[simp] theorem State.latch_op (r : Request) (s : State) : (s.latch r).op = r.op := rfl
@[simp] theorem State.latch_opr (r : Request) (s : State) : (s.latch r).opr = r.data := rfl
@[simp] theorem State.latch_len (r : Request) (s : State) : (s.latch r).len = r.len := rfl
@[simp] theorem State.latch_acc (r : Request) (s : State) : (s.latch r).acc = s.acc := rfl
@[simp] theorem State.latch_cnt (r : Request) (s : State) : (s.latch r).cnt = s.cnt := rfl
@[simp] theorem State.latch_rspValid (r : Request) (s : State) : (s.latch r).rspValid = false := rfl
@[simp] theorem State.latch_rspStatus (r : Request) (s : State) : (s.latch r).rspStatus = s.rspStatus := rfl
@[simp] theorem State.latch_rspCrc (r : Request) (s : State) : (s.latch r).rspCrc = s.rspCrc := rfl
@[simp] theorem State.latch_rspYear (r : Request) (s : State) : (s.latch r).rspYear = s.rspYear := rfl
@[simp] theorem State.latch_rspMonth (r : Request) (s : State) : (s.latch r).rspMonth = s.rspMonth := rfl
@[simp] theorem State.latch_rspOffset (r : Request) (s : State) : (s.latch r).rspOffset = s.rspOffset := rfl
@[simp] theorem State.latch_rspDelta (r : Request) (s : State) : (s.latch r).rspDelta = s.rspDelta := rfl
@[simp] theorem State.latch_wait (r : Request) (s : State) : (s.latch r).wait = s.wait := rfl
@[simp] theorem State.latch_draws (r : Request) (s : State) : (s.latch r).draws = s.draws := rfl
@[simp] theorem State.latch_script (r : Request) (s : State) : (s.latch r).script = s.script := rfl

/-! ### `State.acceptEdge` -/

@[simp] theorem State.acceptEdge_busy (r : Request) (s : State) : (s.acceptEdge r).busy = true := rfl
@[simp] theorem State.acceptEdge_op (r : Request) (s : State) : (s.acceptEdge r).op = r.op := rfl
@[simp] theorem State.acceptEdge_opr (r : Request) (s : State) : (s.acceptEdge r).opr = r.data := rfl
@[simp] theorem State.acceptEdge_len (r : Request) (s : State) : (s.acceptEdge r).len = r.len := rfl
@[simp] theorem State.acceptEdge_cnt (r : Request) (s : State) : (s.acceptEdge r).cnt = drawnCnt s.draws := rfl
@[simp] theorem State.acceptEdge_rspValid (r : Request) (s : State) : (s.acceptEdge r).rspValid = false := rfl
@[simp] theorem State.acceptEdge_wait (r : Request) (s : State) : (s.acceptEdge r).wait = Config.extraEdges r.op r.len r.data s.draws := rfl
@[simp] theorem State.acceptEdge_draws (r : Request) (s : State) : (s.acceptEdge r).draws = s.draws + 1 := rfl
@[simp] theorem State.acceptEdge_script (r : Request) (s : State) : (s.acceptEdge r).script = s.script := rfl

/-! ### `State.waitEdge` -/

@[simp] theorem State.waitEdge_busy (s : State) : s.waitEdge.busy = s.busy := rfl
@[simp] theorem State.waitEdge_op (s : State) : s.waitEdge.op = s.op := rfl
@[simp] theorem State.waitEdge_opr (s : State) : s.waitEdge.opr = s.opr := rfl
@[simp] theorem State.waitEdge_len (s : State) : s.waitEdge.len = s.len := rfl
@[simp] theorem State.waitEdge_cnt (s : State) : s.waitEdge.cnt = drawnCnt s.draws := rfl
@[simp] theorem State.waitEdge_rspValid (s : State) : s.waitEdge.rspValid = s.rspValid := rfl
@[simp] theorem State.waitEdge_wait (s : State) : s.waitEdge.wait = s.wait - 1 := rfl
@[simp] theorem State.waitEdge_draws (s : State) : s.waitEdge.draws = s.draws + 1 := rfl
@[simp] theorem State.waitEdge_script (s : State) : s.waitEdge.script = s.script := rfl

/-! ### `State.idleEdge` -/

@[simp] theorem State.idleEdge_busy (s : State) : s.idleEdge.busy = s.busy := rfl
@[simp] theorem State.idleEdge_op (s : State) : s.idleEdge.op = s.op := rfl
@[simp] theorem State.idleEdge_opr (s : State) : s.idleEdge.opr = s.opr := rfl
@[simp] theorem State.idleEdge_len (s : State) : s.idleEdge.len = s.len := rfl
@[simp] theorem State.idleEdge_cnt (s : State) : s.idleEdge.cnt = drawnCnt s.draws := rfl
@[simp] theorem State.idleEdge_rspValid (s : State) : s.idleEdge.rspValid = s.rspValid := rfl
@[simp] theorem State.idleEdge_wait (s : State) : s.idleEdge.wait = s.wait := rfl
@[simp] theorem State.idleEdge_draws (s : State) : s.idleEdge.draws = s.draws + 1 := rfl
@[simp] theorem State.idleEdge_script (s : State) : s.idleEdge.script = s.script := rfl

end Sys2Proof.Machine
end

