-- ==== Sys2Proof/Laws/Ops.lean ====
section
/-! SUPPORT. For each shared operation one lemma that says all it can do, and the case analysis of one step. -/

namespace Sys2Proof.Machine

/-! ## Free draws -/

/-- A free `CNT` stays in its range (R33). -/
theorem drawnCnt_le (n : Nat) : (drawnCnt n).toNat ≤ 32 := by
  have h := (Config.freeCnt n).isLt
  simp only [drawnCnt, BitVec.toNat_ofNat]
  omega

/-- A redraw keeps the status while it is meaningful (R154). -/
theorem State.drawResults_status (s : State) (h : s.statusReadable = true) :
    s.drawResults.rspStatus = s.rspStatus := by
  simp [State.drawResults, h]

/-- A redraw keeps the checksum while it is meaningful (R154). -/
theorem State.drawResults_crc (s : State) (h : s.crcReadable = true) : s.drawResults.rspCrc = s.rspCrc := by
  simp [State.drawResults, h]

/-- A redraw keeps the four fields while they are meaningful (R154). -/
theorem State.drawResults_fields (s : State) (h : s.fieldsReadable = true) :
    s.drawResults.rspYear = s.rspYear ∧ s.drawResults.rspMonth = s.rspMonth ∧
      s.drawResults.rspOffset = s.rspOffset ∧ s.drawResults.rspDelta = s.rspDelta := by
  simp [State.drawResults, h]

/-! ## Responses -/

/-- A decode response is the success response or the shared error response (R136, R174). -/
theorem State.respondDecode_cases (r : DecodeResult) (s : State) :
    (∃ a, r = .ok a ∧ s.respondDecode r = s.respondOk a) ∨ (∃ k, r = .err k ∧ s.respondDecode r = s.raiseError k) := by
  cases r with
  | ok a => exact .inl ⟨a, rfl, rfl⟩
  | err k => exact .inr ⟨k, rfl, rfl⟩

/-- What every decode response fixes whatever the outcome: the operation is over, a response is held, the latches, the
working registers, the wait and the host's script are untouched (R153). -/
theorem State.respondDecode_frame (r : DecodeResult) (s : State) :
    (s.respondDecode r).busy = false ∧ (s.respondDecode r).rspValid = true ∧ (s.respondDecode r).op = s.op ∧
      (s.respondDecode r).opr = s.opr ∧ (s.respondDecode r).len = s.len ∧ (s.respondDecode r).acc = s.acc ∧
      (s.respondDecode r).cnt = s.cnt ∧ (s.respondDecode r).wait = s.wait ∧ (s.respondDecode r).script = s.script ∧
      (s.respondDecode r).draws = s.draws + 1 := by
  cases r <;> simp [State.respondDecode]

/-- The response under the residue condition is the given outcome or `IntegrityFailure`, after one run of the engine over
the payload (R123). -/
theorem State.respondUnderResidue_eq (p : BitVec 28) (r : DecodeResult) (s : State) :
    s.respondUnderResidue p r =
      (s.runEngine (p.setWidth 32) Config.payloadW).respondDecode
        (if residueGood p then r else .err .integrityFailure) := by
  by_cases h : residueGood p
  · have h' : engineResult (s.runEngine (p.setWidth 32) Config.payloadW).acc = Config.residue := by
      simpa [residueGood, checksum] using h
    simp only [State.respondUnderResidue, if_pos h, if_pos h']
  · have h' : ¬ engineResult (s.runEngine (p.setWidth 32) Config.payloadW).acc = Config.residue := by
      simpa [residueGood, checksum] using h
    simp only [State.respondUnderResidue, if_neg h, if_neg h']

/-! ## The engine -/

/-- The accumulator's iteration takes exclusive or to exclusive or (R102). -/
theorem accIterate_xor (a b : Word) : accIterate (a ^^^ b) = accIterate a ^^^ accIterate b := by
  unfold accIterate
  rw [BitVec.getLsbD_xor]
  cases a.getLsbD 31 <;> cases b.getLsbD 31 <;>
    simp only [Bool.false_bne, Bool.true_bne, Bool.not_false, Bool.not_true, if_true, if_false, Bool.false_eq_true,
      ← BitVec.shiftLeft_xor_distrib]
  · rw [BitVec.xor_assoc]
  · rw [BitVec.xor_assoc, BitVec.xor_comm b, BitVec.xor_assoc]
  · rw [BitVec.xor_assoc a, ← BitVec.xor_assoc Config.poly32, BitVec.xor_comm Config.poly32, BitVec.xor_assoc b]
    simp

/-- One iteration more, at the end (R102). -/
theorem engineRun_succ (n : Nat) (e : EngineRegs) : engineRun (n + 1) e = engineIterate (engineRun n e) := by
  induction n generalizing e with
  | zero => rfl
  | succ n ih => exact ih (engineIterate e)

/-! ## Edges -/

/-- Acceptance is refused exactly for a reserved length (R156). -/
theorem State.accept_cases (r : Request) (s : State) :
    (r.Legal ∧ s.accept r = .next (s.acceptEdge r)) ∨ (¬ r.Legal ∧ s.accept r = .refused (.reservedLength r.len)) := by
  by_cases h : r.Legal
  · exact .inl ⟨h, by simp only [State.accept, if_pos h]⟩
  · exact .inr ⟨h, by simp only [State.accept, if_neg h]⟩

/-- When the next edge is of each kind (R150, R152, R153, R200). -/
theorem State.edge_cases (s : State) :
    (s.pins.rst = true ∧ s.edge = .reset) ∨
    (s.pins.rst = false ∧ s.busy = true ∧ s.wait = 0 ∧ s.edge = .complete) ∨
    (s.pins.rst = false ∧ s.busy = true ∧ s.wait ≠ 0 ∧ s.edge = .wait) ∨
    (s.pins.rst = false ∧ s.busy = false ∧ s.pins.reqValid = true ∧ s.edge = .accept (requestOnPins s.pins)) ∨
    (s.pins.rst = false ∧ s.busy = false ∧ s.pins.reqValid = false ∧ s.edge = .idle) := by
  unfold State.edge
  cases s.pins.rst <;> cases s.busy <;> cases s.pins.reqValid <;> by_cases s.wait = 0 <;> simp_all

/-- If a step answers a next state, it is one of the five edges (R156). -/
theorem step_cases {s t : State} (h : step s = .next t) :
    (s.edge = .reset ∧ t = s.sampled.resetEdge) ∨
    (s.edge = .complete ∧ exec s.latchedInstr s.sampled = .next t) ∨
    (s.edge = .wait ∧ t = s.sampled.waitEdge) ∨
    (∃ r, s.edge = .accept r ∧ r.Legal ∧ t = s.sampled.acceptEdge r) ∨
    (s.edge = .idle ∧ t = s.sampled.idleEdge) := by
  unfold step at h
  split at h
  · next e => exact .inl ⟨e, by simpa using h.symm⟩
  · next e => exact .inr (.inl ⟨e, h⟩)
  · next e => exact .inr (.inr (.inl ⟨e, by simpa using h.symm⟩))
  · next r e =>
    refine .inr (.inr (.inr (.inl ⟨r, e, ?_⟩)))
    obtain ⟨hl, ha⟩ | ⟨_, ha⟩ := State.accept_cases r s.sampled
    · rw [ha] at h
      exact ⟨hl, by simpa using h.symm⟩
    · rw [ha] at h
      cases h
  · next e => exact .inr (.inr (.inr (.inr ⟨e, by simpa using h.symm⟩)))

/-! ## Runs -/

/-- A run of one edge more, when the first edge answers a next state. -/
theorem run_of_step {s t : State} (k : Nat) (h : step s = .next t) :
    Host.Core.run Sys2Proof.core (k + 1) s = Host.Core.run Sys2Proof.core k t := by
  have h' : Sys2Proof.core.step s = .next t := h
  simp only [Host.Core.run, h']

end Sys2Proof.Machine
end

