-- ==== Sys2Proof/Laws/PerInstr.lean ====
section
/-! SUPPORT. Facts made instruction by instruction: an encoded instruction fits the mask and match of its own row of the
opcode table. -/

namespace Sys2Proof.Laws.EncodedFitsRow

open Sys2Proof

/-- The bits of the encoded instruction, under its row's mask, are its row's match. -/
def Statement (i : Instr) : Prop := i.row.fits (encode i).bits = true

/-- A word fits a row when its bits under the mask do, read as bit vectors. -/
theorem fits_of_and {n : Nat} (w : BitVec n) (r : TableRow) (mask pattern : BitVec n) (hm : mask.toNat = r.mask)
    (hp : pattern.toNat = r.pattern) (h : w &&& mask = pattern) : r.fits w.toNat = true := by
  unfold TableRow.fits
  rw [← hm, ← hp, ← BitVec.toNat_and, h]
  simp

/-- A request word under the operation bit. -/
theorem req_fits (o : BitVec 1) (len : BitVec 6) (d : Word) :
    (o ++ len ++ d) &&& (BitVec.allOnes 1 ++ 0#6 ++ 0#32) = o ++ 0#6 ++ 0#32 := by
  simp only [BitVec.and_append, BitVec.and_allOnes, BitVec.and_zero]

/-- An announcement word with the good sentinel under the mask of sentinel and delta code. -/
theorem ann_fits (h : BitVec 11) (d : BitVec 2) (m : BitVec 7) (c : BitVec 8) :
    (0b1111#4 ++ h ++ d ++ m ++ c) &&& (BitVec.allOnes 4 ++ 0#11 ++ BitVec.allOnes 2 ++ 0#7 ++ 0#8) =
      0b1111#4 ++ 0#11 ++ d ++ 0#7 ++ 0#8 := by
  simp only [BitVec.and_append, BitVec.and_allOnes, BitVec.and_zero]

/-- A word without the sentinel under the mask of the sentinel bits its row fixes. -/
theorem notAnn_fits {k j : Nat} (t : BitVec k) (s : BitVec j) (r : BitVec 28) :
    (t ++ s ++ r) &&& (BitVec.allOnes k ++ 0#j ++ 0#28) = t ++ 0#j ++ 0#28 := by
  simp only [BitVec.and_append, BitVec.and_allOnes, BitVec.and_zero]

theorem checksum (len : BitVec 6) (m : Word) : Statement (.checksum len m) :=
  fits_of_and _ _ _ _ rfl rfl (req_fits 0#1 len m)

theorem decode (len : BitVec 6) (r : Word) : Statement (.decode len r) :=
  fits_of_and _ _ _ _ rfl rfl (req_fits 1#1 len r)

theorem annNone (h : BitVec 11) (m : BitVec 7) (c : BitVec 8) : Statement (.annNone h m c) :=
  fits_of_and _ _ _ _ rfl rfl (ann_fits h 0#2 m c)

theorem annDec (h : BitVec 11) (m : BitVec 7) (c : BitVec 8) : Statement (.annDec h m c) :=
  fits_of_and _ _ _ _ rfl rfl (ann_fits h 1#2 m c)

theorem annInc (h : BitVec 11) (m : BitVec 7) (c : BitVec 8) : Statement (.annInc h m c) :=
  fits_of_and _ _ _ _ rfl rfl (ann_fits h 2#2 m c)

theorem annIllegal (h : BitVec 11) (m : BitVec 7) (c : BitVec 8) : Statement (.annIllegal h m c) :=
  fits_of_and _ _ _ _ rfl rfl (ann_fits h 3#2 m c)

theorem notAnn0xxx (t : BitVec 3) (r : BitVec 28) : Statement (.notAnn0xxx t r) :=
  fits_of_and _ _ _ _ rfl rfl (notAnn_fits 0b0#1 t r)

theorem notAnn10xx (t : BitVec 2) (r : BitVec 28) : Statement (.notAnn10xx t r) :=
  fits_of_and _ _ _ _ rfl rfl (notAnn_fits 0b10#2 t r)

theorem notAnn110x (t : BitVec 1) (r : BitVec 28) : Statement (.notAnn110x t r) :=
  fits_of_and _ _ _ _ rfl rfl (notAnn_fits 0b110#3 t r)

theorem notAnn1110 (r : BitVec 28) : Statement (.notAnn1110 r) :=
  fits_of_and _ _ _ _ rfl rfl (notAnn_fits 0b1110#4 (0#0) r)

end Sys2Proof.Laws.EncodedFitsRow
end

