-- ==== Sys2Proof/Tests/Slice0.lean ====
section
/-! SUPPORT. Tests: values are those of spec/95_test_vectors.md and of the rules named; and for every statement with hypotheses a
concrete case that meets all of them together. -/

-- One theorem after another: many kernel evaluations at once would each take a thread with a stack of its own.
set_option Elab.async false

namespace Sys2Proof.Tests

open Sys2Proof Sys2Proof.Machine

/-- The outcome is a next state with a property. -/
def nextSuch (o : Host.Outcome State Fault Refusal) (f : State → Bool) : Bool :=
  match o with
  | .next t => f t
  | .fault _ => false
  | .refused _ => false

/-- The outcome is a refusal with this reason. -/
def refusedWith (o : Host.Outcome State Fault Refusal) (e : Refusal) : Bool :=
  match o with
  | .next _ => false
  | .fault _ => false
  | .refused r => r == e

/-- The state after reset with an accepted request that completes after `n` more edges. -/
def inProgress (r : Request) (n : Nat) : State := { State.reset.latch r with wait := n }

/-- `decode 240.3.9.77`, the document's vector V1. -/
def reqV1 : Request := decodeQuad 240 3 9 77

/-- `checksum 0xA5, 8` (95_test_vectors.md section 2.3). -/
def reqA5 : Request := checksumLine 0xA5#32 8#6

/-- The state after reset, with a host that presents a request at the next edge. -/
def presenting (r : Request) : State := { State.reset with script := [presentPins r] }

/-- The state that holds V1's response. -/
def holdsV1 : State :=
  { State.reset with
    op := 1#1, opr := 0xF003094D#32, rspValid := true, rspYear := 1971#12, rspMonth := 12#4, rspOffset := 9#7,
    rspDelta := 0b01#2 }

/-! ## Well-formedness (R77, R105) -/

theorem test_wf_refuses_length_0 : Instr.wellFormed (.checksum 0#6 1#32) = false := by decide
theorem test_wf_refuses_length_33 : Instr.wellFormed (.checksum 33#6 1#32) = false := by decide
theorem test_wf_accepts_lengths_1_and_32 :
    Instr.wellFormed (.checksum 1#6 1#32) = true ∧ Instr.wellFormed (.checksum 32#6 1#32) = true := by decide
theorem test_wf_accepts_decode_of_any_length :
    Instr.wellFormed (.decode 0#6 0#32) = true ∧ Instr.wellFormed (.decode 63#6 0#32) = true := by decide

/-! ## Decoding: words written out from the formats of R70, R75 and R76 -/

theorem test_decode_checksum : decodeReq (0b0#1 ++ 0b011100#6 ++ 0x0003094D#32) = .checksum 28#6 0x3094D#32 := by decide
theorem test_decode_decode : decodeReq (0b1#1 ++ 0b111111#6 ++ 0xF003094D#32) = .decode 63#6 0xF003094D#32 := by decide
theorem test_decode_annNone : decodeAnn 0b11110010000100100001110010100000#32 = .annNone 265#11 28#7 0xA0#8 := by decide
theorem test_decode_annDec : decodeAnn 0b11111111010011001100100011101101#32 = .annDec 1958#11 72#7 0xED#8 := by decide
theorem test_decode_annInc : decodeAnn 0b11110000000000110000100101001101#32 = .annInc 1#11 9#7 0x4D#8 := by decide
theorem test_decode_annIllegal : decodeAnn 0b11110001101100111001100001001001#32 = .annIllegal 217#11 24#7 0x49#8 := by decide
theorem test_decode_notAnn0xxx : decodeAnn 0b01010000000000000000000000000001#32 = .notAnn0xxx 0b101#3 1#28 := by decide
theorem test_decode_notAnn10xx : decodeAnn 0b10010000000000000000000000000010#32 = .notAnn10xx 0b01#2 2#28 := by decide
theorem test_decode_notAnn110x : decodeAnn 0b11010000000000000000000000000011#32 = .notAnn110x 0b1#1 3#28 := by decide
theorem test_decode_notAnn1110 : decodeAnn 0b11100000000000000000000000000100#32 = .notAnn1110 4#28 := by decide
theorem test_decode_rejects_widths :
    decodeNumbered 16 0 = .error (.noSuchWidth 16) ∧ decodeNumbered 32 (2 ^ 32) = .error (.bitsAboveFormat 32 (2 ^ 32)) ∧
      decodeNumbered 40 (2 ^ 39) = .error (.bitsAboveFormat 40 (2 ^ 39)) := by decide
theorem test_decode_octets :
    decodeOctets [240, 3, 9, 77] = .ok (.annInc 1#11 9#7 0x4D#8) ∧ decodeOctets [240, 3, 9] = .error (.octetCount 3) := by
  decide
theorem test_encode_requests :
    encode (.decode 0#6 0xF003094D#32) = .req 0x40F003094D#39 ∧
      encode (.checksum 28#6 0x003094D#32) = .req 0x1C0003094D#39 := by decide

/-! ## Layer F -/

/-- The constant of R4, and the two iterations worked in 95_test_vectors.md section 2.4. -/
theorem test_poly32 : Config.poly32 = 0x97800000#32 := by decide
theorem test_iterations :
    accIterate 0x54993F28#32 = 0xA9327E50#32 ∧ accIterate 0xA9327E50#32 = 0x7D64FCA0#32 := by decide

/-- 95_test_vectors.md section 2.1 and R112. -/
theorem test_checksum_vectors :
    checksum 0x003094D#32 28 = 0x80#8 ∧ checksum 0xFFFFFFF#32 28 = 0x0E#8 ∧ checksum 0x00309#32 20 = 0x4D#8 ∧
      checksum 0#32 1 = 0xA9#8 ∧ checksum 1#32 1 = 0x86#8 ∧ checksum 0xA5#32 8 = 0x5E#8 ∧
      checksum 0x123456#32 24 = 0xAA#8 ∧ checksum 0x1FFFFFF#32 25 = 0xAA#8 ∧ checksum 0xDEADBEEF#32 32 = 0xFD#8 ∧
      checksum 0x54A9ABF8#32 32 = 0x00#8 := by decide +kernel

/-- The seven vectors of the document (95_test_vectors.md section 1.1). -/
theorem test_document_vectors :
    decodeAnnouncement (quad 240 3 9 77) = .ok ⟨1971, 12, 9, 1⟩ ∧
      decodeAnnouncement (quad 240 15 10 108) = .ok ⟨1972, 6, 10, 1⟩ ∧
      decodeAnnouncement (quad 242 18 28 160) = .ok ⟨1993, 12, 28, 0⟩ ∧
      decodeAnnouncement (quad 255 76 200 237) = .ok ⟨2135, 1, 72, -1⟩ ∧
      decodeAnnouncement (quad 127 240 133 76) = .err .badFormat ∧
      decodeAnnouncement (quad 255 209 76 40) = .err .integrityFailure ∧
      decodeAnnouncement (quad 241 179 152 73) = .err .illegalDelta := by decide +kernel

/-- The corners of 95_test_vectors.md sections 3.1 and 3.3, and the undetected four-bit change of R110. -/
theorem test_decode_corners :
    decodeAnnouncement 0xF0000021#32 = .ok ⟨1971, 11, 0, 0⟩ ∧ decodeAnnouncement 0xFFFF7F62#32 = .ok ⟨2142, 6, 127, 1⟩ ∧
      decodeAnnouncement 0xF01C40B2#32 = .ok ⟨1973, 1, 64, 0⟩ ∧ decodeAnnouncement 0xFFFFFFFF#32 = .err .integrityFailure ∧
      decodeAnnouncement 0x71B39849#32 = .err .badFormat ∧ decodeAnnouncement 0xF1B39848#32 = .err .integrityFailure ∧
      decodeAnnouncement 0xF083094A#32 = .ok ⟨1977, 4, 9, 1⟩ := by decide +kernel

/-- R135's own examples. -/
theorem test_produce :
    produce 1#11 2#2 9#7 = 0xF003094D#32 ∧ produce 7#11 2#2 10#7 = 0xF00F0A6C#32 ∧
      produce 265#11 0#2 28#7 = 0xF2121CA0#32 ∧ produce 1958#11 1#2 72#7 = 0xFF4CC8ED#32 := by decide +kernel

/-! ## Meanings, one step each -/

theorem test_exec_checksum :
    nextSuch (exec (.checksum 8#6 0xA5#32) (inProgress reqA5 0))
      (fun t => t.rspCrc == 0x5E#8 && t.rspStatus == 0#2 && t.acc == 0x5EABF800#32 && t.cnt == 8#6 && !t.busy) = true := by
  decide +kernel
theorem test_exec_checksum_refuses :
    refusedWith (exec (.checksum 0#6 0#32) State.reset) (.reservedLength 0#6) = true ∧
      refusedWith (exec (.checksum 33#6 0#32) State.reset) (.reservedLength 33#6) = true := by decide +kernel
theorem test_exec_decode :
    nextSuch (exec (.decode 63#6 0xFF4CC8ED#32) State.reset)
      (fun t => t.rspStatus == 0#2 && t.rspYear == 2135#12 && t.rspMonth == 1#4 && t.rspOffset == 72#7 &&
        t.rspDelta == 0b11#2) = true := by decide +kernel
theorem test_exec_decode_bad_format :
    nextSuch (exec (.decode 0#6 0x7FF0854C#32) State.reset) (fun t => t.rspStatus == 1#2 && t.rspValid && !t.busy) = true := by
  decide +kernel
theorem test_exec_annNone :
    nextSuch (exec (.annNone 265#11 28#7 0xA0#8) State.reset)
      (fun t => t.rspStatus == 0#2 && t.rspYear == 1993#12 && t.rspMonth == 12#4 && t.rspDelta == 0#2) = true := by
  decide +kernel
theorem test_exec_annNone_integrity :
    nextSuch (exec (.annNone 0#11 0#7 0#8) State.reset) (fun t => t.rspStatus == 2#2) = true := by decide +kernel
theorem test_exec_annDec :
    nextSuch (exec (.annDec 1958#11 72#7 0xED#8) State.reset)
      (fun t => t.rspStatus == 0#2 && t.rspYear == 2135#12 && t.rspOffset == 72#7 && t.rspDelta == 0b11#2) = true := by
  decide +kernel
theorem test_exec_annDec_integrity :
    nextSuch (exec (.annDec 1958#11 72#7 0xEC#8) State.reset) (fun t => t.rspStatus == 2#2) = true := by decide +kernel
theorem test_exec_annInc :
    nextSuch (exec (.annInc 1#11 9#7 0x4D#8) State.reset)
      (fun t => t.rspStatus == 0#2 && t.rspYear == 1971#12 && t.rspMonth == 12#4 && t.rspDelta == 0b01#2) = true := by
  decide +kernel
theorem test_exec_annInc_integrity :
    nextSuch (exec (.annInc 1#11 9#7 0x4C#8) State.reset) (fun t => t.rspStatus == 2#2) = true := by decide +kernel
theorem test_exec_annIllegal :
    nextSuch (exec (.annIllegal 217#11 24#7 0x49#8) State.reset) (fun t => t.rspStatus == 3#2) = true := by decide +kernel
theorem test_exec_annIllegal_integrity :
    nextSuch (exec (.annIllegal 217#11 24#7 0x48#8) State.reset) (fun t => t.rspStatus == 2#2) = true := by decide +kernel
theorem test_exec_notAnn :
    nextSuch (exec (.notAnn0xxx 7#3 0#28) State.reset) (fun t => t.rspStatus == 1#2) = true ∧
      nextSuch (exec (.notAnn10xx 3#2 0#28) State.reset) (fun t => t.rspStatus == 1#2) = true ∧
      nextSuch (exec (.notAnn110x 1#1 0#28) State.reset) (fun t => t.rspStatus == 1#2) = true ∧
      nextSuch (exec (.notAnn1110 0x003094D#28) State.reset) (fun t => t.rspStatus == 1#2) = true := by decide +kernel

/-! ## Edges: the worked example of R158 from its edge 2 on, and the sequences of 95_test_vectors.md section 5 -/

/-- R158, edges 2 to 5: the request presented at edge 3 is not accepted, the operation completes at edge 4, and at edge 5 the
request that is still presented is accepted and the response is gone. -/
theorem test_worked_example :
    let second := presentPins (decodeQuad 127 240 133 76)
    let s := { inProgress reqV1 2 with script := [idlePins, second, second, second] }
    nextSuch (Host.Core.run Sys2Proof.core 2 s) (fun t => t.busy && !t.rspValid) = true ∧
      nextSuch (Host.Core.run Sys2Proof.core 3 s)
        (fun t => !t.busy && t.response == some (.ok ⟨1971, 12, 9, 1⟩)) = true ∧
      nextSuch (Host.Core.run Sys2Proof.core 4 s)
        (fun t => t.busy && !t.rspValid && t.opr == 0x7FF0854C#32) = true := by decide +kernel

/-- T11 and T12: a reserved length is refused at acceptance. -/
theorem test_accept_refuses :
    refusedWith (step (presenting (checksumLine 0 0#6))) (.reservedLength 0#6) = true ∧
      refusedWith (step (presenting (checksumLine 0 33#6))) (.reservedLength 33#6) = true := by
  decide +kernel

/-- T5 and T7: reset abandons an operation in progress and discards a held response. -/
theorem test_reset_edge :
    nextSuch (step { inProgress reqV1 0 with script := [resetPins] }) (fun t => !t.busy && !t.rspValid) = true ∧
      nextSuch (step { holdsV1 with script := [resetPins] }) (fun t => !t.busy && !t.rspValid) = true := by decide +kernel

/-- With nothing presented the block idles after reset (R200). -/
theorem test_reset_idles : nextSuch (step State.reset) (fun t => !t.busy && !t.rspValid) = true := by decide +kernel

/-- A word placed for the host runs at the very next step. -/
theorem test_withFetchWord :
    nextSuch (step (State.reset.withFetchWord 40 0x40F003094D))
      (fun t => t.response == some (.ok ⟨1971, 12, 9, 1⟩)) = true ∧
      nextSuch (step (State.reset.withFetchWord 32 0xF003094D))
        (fun t => t.response == some (.ok ⟨1971, 12, 9, 1⟩)) = true ∧
      nextSuch (step (State.reset.withFetchWord 40 0x08000000A5)) (fun t => t.response == some (.crc 0x5E#8)) = true := by
  decide +kernel

/-! ## Witnesses: every statement with hypotheses speaks of something -/

/-- For the statements about the engine: lengths at both ends and at 24, where the two clauses of the closed form meet; a low
bit that stays the seed's; a message bit below the length. -/
theorem witness_lengths :
    (1 ≤ 1 ∧ 1 ≤ 32 ∧ 1 ≤ 24 ∧ 30 < 32 - 1) ∧ (1 ≤ 24 ∧ 24 ≤ 32 ∧ 24 ≤ 24) ∧ (1 ≤ 32 ∧ 32 ≤ 32 ∧ 24 ≤ 32 ∧ 31 < 32) := by
  decide

theorem witness_EngineIterationRule :
    (0xA9327E50#32).getLsbD 31 = true ∧ (0x54993F28#32).getLsbD 31 = false := by decide

theorem witness_QuadIsBigEndian : decodeAnnouncement (quad 240 0 0 33) = .ok ⟨1971, 11, 0, 0⟩ := by decide +kernel

theorem witness_RequestWordLayout : reqA5.op = 0#1 ∧ reqV1.op = 1#1 := by decide

theorem witness_OneAndTwoBitErrorsAreDetected :
    sentinelOf 0xF003094D#32 = 0b1111#4 ∧ residueGood (payload28 0xF003094D#32) = true ∧
      (0 < 28 ∧ 27 < 28) ∧ (26 < 27 ∧ 27 < 28) ∧ (28 ≤ 28 ∧ 31 < 32) := by decide +kernel

theorem witness_ThreeBitErrorsAreDetected :
    residueGood 0x003094D#28 = true ∧ (0 < 1 ∧ 1 < 2 ∧ 2 < 28) ∧ (25 < 26 ∧ 26 < 27 ∧ 27 < 28) := by decide +kernel

theorem witness_BurstsOfEightBitsAreDetected : residueGood 0x003094D#28 = true ∧ (0xFF#8 ≠ 0#8) ∧ 20 ≤ 20 := by decide +kernel

/-- For `ChecksumCompletesWithItsValue`, `ChecksumLeavesTheEndOfItsComputation` and both clauses of
`ChecksumRunsExactlyForLengthsOneToThirtyTwo`. -/
theorem witness_ChecksumLengths :
    (LegalLength 1#6 ∧ LegalLength 32#6) ∧ (0#6).toNat = 0 ∧ 33 ≤ (33#6).toNat ∧ 33 ≤ (63#6).toNat := by decide

/-- One word for each clause of `DecodeReportsTheEarliestError`. -/
theorem witness_DecodeReportsTheEarliestError :
    (0xE003094D#32).extractLsb' 28 4 ≠ 0b1111#4 ∧
      ((0xF1B39848#32).extractLsb' 28 4 = 0b1111#4 ∧ checksum (0xF1B39848#32 &&& 0x0FFFFFFF#32) 28 ≠ 0x80#8) ∧
      ((0xF1B39849#32).extractLsb' 28 4 = 0b1111#4 ∧ checksum (0xF1B39849#32 &&& 0x0FFFFFFF#32) 28 = 0x80#8 ∧
        (0xF1B39849#32).extractLsb' 15 2 = 3#2) ∧
      ((0xF003094D#32).extractLsb' 28 4 = 0b1111#4 ∧ checksum (0xF003094D#32 &&& 0x0FFFFFFF#32) 28 = 0x80#8 ∧
        (0xF003094D#32).extractLsb' 15 2 ≠ 3#2) := by decide +kernel

/-- One decoded word for each delta code, and the ends of the range of years (`DecodeInterpretsItsFields`,
`DecodedFieldsAreInRange`). -/
theorem witness_DecodeInterpretsItsFields :
    (decodeAnnouncement 0xF2121CA0#32 = .ok ⟨1993, 12, 28, 0⟩ ∧ (0xF2121CA0#32).extractLsb' 15 2 = 0#2) ∧
      (decodeAnnouncement 0xFF4CC8ED#32 = .ok ⟨2135, 1, 72, -1⟩ ∧ (0xFF4CC8ED#32).extractLsb' 15 2 = 1#2) ∧
      (decodeAnnouncement 0xF003094D#32 = .ok ⟨1971, 12, 9, 1⟩ ∧ (0xF003094D#32).extractLsb' 15 2 = 2#2) ∧
      decodeAnnouncement 0xFFFE002A#32 = .ok ⟨2142, 6, 0, 0⟩ := by decide +kernel

theorem witness_ProducedWordsDecodeToTheirFields : (3#2 : BitVec 2) = 3#2 ∧ (2#2 : BitVec 2) ≠ 3#2 := by decide

/-- For each of the rows with the good sentinel, a word with the good residue and one with a bad residue. -/
theorem witness_AnnouncementRows :
    (checksum ((0#11 ++ 0#2 ++ 0#7 ++ 0x21#8).setWidth 32) 28 = 0x80#8 ∧
      checksum ((0#11 ++ 0#2 ++ 0#7 ++ 0x20#8).setWidth 32) 28 ≠ 0x80#8) ∧
    (checksum ((0#11 ++ 1#2 ++ 0#7 ++ 0xC2#8).setWidth 32) 28 = 0x80#8 ∧
      checksum ((0#11 ++ 1#2 ++ 0#7 ++ 0xC3#8).setWidth 32) 28 ≠ 0x80#8) ∧
    (checksum ((0#11 ++ 2#2 ++ 0#7 ++ 0xC8#8).setWidth 32) 28 = 0x80#8 ∧
      checksum ((0#11 ++ 2#2 ++ 0#7 ++ 0xC9#8).setWidth 32) 28 ≠ 0x80#8) ∧
    (checksum ((2047#11 ++ 3#2 ++ 127#7 ++ 0x81#8).setWidth 32) 28 = 0x80#8 ∧
      checksum ((2047#11 ++ 3#2 ++ 127#7 ++ 0x80#8).setWidth 32) 28 ≠ 0x80#8) := by decide +kernel

theorem witness_StepRunsTheLatchedOperation :
    (inProgress reqV1 0).pins.rst = false ∧ (inProgress reqV1 0).busy = true ∧ (inProgress reqV1 0).wait = 0 := by decide

theorem witness_StepRunsThePlacedWord :
    decodeTableWord 32 0xF003094D = some (.annInc 1#11 9#7 0x4D#8) ∧
      decodeTableWord 40 0x40F003094D = some (.decode 0#6 0xF003094D#32) ∧
      decodeTableWord 39 0x08000000A5 = some (.checksum 8#6 0xA5#32) := by decide

/-- Acceptance of each operation, the ends of the legal lengths, and the reserved lengths next to them. -/
theorem witness_Acceptance :
    (∀ r ∈ [reqV1, checksumLine 0 1#6, checksumLine 0 32#6, checksumLine 0 0#6, checksumLine 0 33#6, checksumLine 0 63#6],
      (presenting r).script = presentPins r :: [] ∧ (presentPins r).rst = false ∧ (presentPins r).reqValid = true ∧
        (presenting r).busy = false) ∧
    (presentPins reqV1).reqOp = 1#1 ∧
    (∀ l ∈ [1#6, 32#6], (presentPins (checksumLine 0 l)).reqOp = 0#1 ∧
      LegalLength (presentPins (checksumLine 0 l)).reqLen) ∧
    (presentPins (checksumLine 0 0#6)).reqLen.toNat = 0 ∧ 33 ≤ (presentPins (checksumLine 0 33#6)).reqLen.toNat := by decide

/-- A completing edge of a `DECODE`, for the clause that `LEN` is not read; with another length the response is the same. -/
theorem witness_DecodeDoesNotReadLen :
    (inProgress reqV1 0).edge = .complete ∧ (inProgress reqV1 0).op = 1#1 ∧
      nextSuch (step { inProgress reqV1 0 with len := 63#6 })
        (fun t => t.response == some (.ok ⟨1971, 12, 9, 1⟩) && t.len == 63#6) = true := by decide +kernel

theorem witness_OnlyAcceptedRequestsLeaveATrace :
    (presenting reqV1).edge = .accept reqV1 ∧
      (inProgress reqV1 1).busy = true ∧ (presentPins reqV1).rst = idlePins.rst ∧
      (resetPins.rst = true ∧ resetPins.rst = ({ presentPins reqV1 with rst := true } : Pins).rst) ∧
      (idlePins.reqValid = false ∧ ({ presentPins reqV1 with reqValid := false } : Pins).reqValid = false) := by decide

theorem witness_AnOperationInProgressShowsNothing :
    (inProgress reqV1 1).pins.rst = false ∧ (inProgress reqV1 1).busy = true ∧ (inProgress reqV1 1).rspValid = false ∧
      (inProgress reqV1 1).wait ≠ 0 := by decide

/-- A held `DECODE` response, a held `CHECKSUM` response, and no response. -/
theorem witness_AHeldResponseIsStable :
    (holdsV1.pins.rst = false ∧ holdsV1.busy = false ∧ holdsV1.pins.reqValid = false ∧ holdsV1.rspValid = true ∧
      holdsV1.op = 1#1 ∧ holdsV1.rspStatus = 0#2) ∧
    (({ State.reset with rspValid := true, rspCrc := 0x5E#8 } : State).op = 0#1) ∧ State.reset.rspValid = false := by decide

theorem witness_ResetAbandonsTheOperation :
    ({ inProgress reqV1 0 with script := [resetPins] } : State).pins.rst = true ∧
      ({ inProgress reqV1 0 with script := [resetPins] } : State).busy = true := by decide

/-- Steps that answer a next state, one for each kind of edge: for `BusyFollowsAcceptanceAndCompletion`,
`LatchesChangeOnlyAtAcceptance` and `EveryStepSamplesThePortsOnce`. -/
theorem witness_steps :
    nextSuch (step (presenting reqV1)) (fun t => t.busy) = true ∧
      nextSuch (step (inProgress reqV1 1)) (fun t => t.busy) = true ∧
      nextSuch (step (inProgress reqV1 0)) (fun t => !t.busy) = true ∧
      nextSuch (step { inProgress reqV1 0 with script := [resetPins] }) (fun t => !t.busy) = true ∧
      nextSuch (step holdsV1) (fun t => t.rspValid) = true := by decide +kernel

theorem witness_ResponsesDependOnTheRequestAlone :
    (inProgress reqA5 0).latched = reqA5 ∧
      nextSuch (exec (decodeReq reqA5.word) (inProgress reqA5 0)) (fun t => t.rspValid) = true := by decide +kernel

theorem witness_Inv_inProgress : (inProgress reqV1 1).Inv where
  cnt_le := by decide
  busy_no_response := by decide
  busy_legal := by decide
  held_response := by decide
  crc_status := by decide

/-- A state with the invariant whose step answers a next state. -/
theorem witness_EveryStepKeepsTheInvariant :
    (inProgress reqV1 1).Inv ∧ ∃ t, step (inProgress reqV1 1) = .next t :=
  ⟨witness_Inv_inProgress, _, rfl⟩

theorem witness_MeaningfulFieldsAreLegal : holdsV1.Inv ∧ holdsV1.fieldsReadable = true where
  left :=
    { cnt_le := by decide
      busy_no_response := by decide
      busy_legal := by decide
      held_response := by decide +kernel
      crc_status := by decide }
  right := by decide

/-- Under the invariant, an accepting edge with each reserved length at the ends of its range. -/
theorem witness_OnlyReservedLengthsAreRefused :
    (presenting (checksumLine 0 63#6)).Inv where
  cnt_le := by decide
  busy_no_response := by decide
  busy_legal := by decide
  held_response := by decide
  crc_status := by decide

theorem witness_AcceptedRequestsComplete :
    (inProgress reqV1 1).Inv ∧ (inProgress reqV1 1).busy = true ∧ (inProgress reqV1 1).NoResetFor 2 := by
  refine ⟨witness_Inv_inProgress, rfl, ?_⟩
  intro p hp
  simp [inProgress, State.reset, State.latch] at hp

theorem witness_ProgramsObserveTheResponsesOfTheirRequests :
    State.reset.busy = false ∧ ∀ r ∈ [reqA5, reqV1, decodeQuad 127 240 133 76], r.Legal := by decide

theorem witness_InstancesShareNothing :
    ([State.reset, holdsV1] : System)[1]? = some holdsV1 ∧ nextSuch (step holdsV1) (fun t => t.rspValid) = true ∧
      ([State.reset, presenting (checksumLine 0 0#6)] : System)[1]? = some (presenting (checksumLine 0 0#6)) ∧
      refusedWith (step (presenting (checksumLine 0 0#6))) (.reservedLength 0#6) = true := by
  decide +kernel

end Sys2Proof.Tests
end

/-! The response a completed operation leaves (R5, R26, R111, R136): what the host reads back from each kind of response, and
from it that the response is `respOf` of the request in the latches. -/

namespace Sys2Proof.Machine

/-! ## The decoder on the word of a request -/

@[simp] theorem Request.word_op (r : Request) : r.word.extractLsb' 38 1 = r.op :=
  (BitVec.extractLsb'_append_eq_of_le (w := 32) (start := 38) (len := 1) (by decide)).trans
    ((BitVec.extractLsb'_append_eq_of_le (w := 6) (start := 6) (by decide)).trans (by simp))

@[simp] theorem Request.word_len (r : Request) : r.word.extractLsb' 32 6 = r.len :=
  (BitVec.extractLsb'_append_eq_of_le (w := 32) (start := 32) (len := 6) (by decide)).trans
    ((BitVec.extractLsb'_append_eq_of_add_le (w := 6) (start := 0) (by decide)).trans (by simp))

@[simp] theorem Request.word_data (r : Request) : r.word.extractLsb' 0 32 = r.data :=
  (BitVec.extractLsb'_append_eq_of_add_le (w := 32) (start := 0) (len := 32) (by decide)).trans (by simp)

/-- The operation bit of a request selects its instruction (R76). -/
theorem decodeReq_word (r : Request) :
    decodeReq r.word = if r.op = 0#1 then .checksum r.len r.data else .decode r.len r.data := by
  simp only [decodeReq, Request.word_op, Request.word_len, Request.word_data]

/-! ## The two operations -/

theorem exec_checksum (len : BitVec 6) (message : Word) (s : State) :
    exec (.checksum len message) s = execChecksum len message s :=
  rfl

theorem exec_decode (len : BitVec 6) (raw : Word) (s : State) :
    exec (.decode len raw) s = execDecode len raw s :=
  rfl

/-- `CHECKSUM` of a legal length: one engine run, then the checksum's response (R111). -/
theorem execChecksum_of_legal {len : BitVec 6} (hlen : LegalLength len) (message : Word) (s : State) :
    execChecksum len message s =
      .next ((s.runEngine message len.toNat).respondCrc (checksum message len.toNat)) :=
  if_pos hlen

/-- `CHECKSUM` of a reserved length is refused (R77, R105). -/
theorem execChecksum_of_not_legal {len : BitVec 6} (hlen : ¬ LegalLength len) (message : Word) (s : State) :
    execChecksum len message s = .refused (.reservedLength len) :=
  if_neg hlen

/-- `DECODE` always answers, with the response of the decoder's outcome; only what it leaves in the working registers
depends on the sentinel (R121, R136). -/
theorem execDecode_eq (len : BitVec 6) (raw : Word) (s : State) :
    execDecode len raw s = .next
      ((if sentinelOf raw = Config.sentinel then s.runEngine ((payload28 raw).setWidth 32) Config.payloadW
        else s.drawWork).respondDecode (decodeAnnouncement raw)) := by
  by_cases hsent : sentinelOf raw = Config.sentinel
  · simp only [execDecode, if_pos hsent]
  · simp only [execDecode, decodeAnnouncement, State.respondBadFormat, if_neg hsent]

/-! ## Values that fit the result registers -/

/-- The result registers can hold the value: each field is within the width of its register (R26, R33). -/
structure Announced.Fits (a : Announced) : Prop where
  year : a.year < 2 ^ 12
  month : a.month < 2 ^ 4
  offset : a.offsetSeconds < 2 ^ 7
  delta : (deltaBits a.delta).toInt = a.delta

/-- `RSP_DELTA` gives the action's delta back (R136). -/
theorem toInt_deltaBits_deltaSeconds (action : DeltaAction) :
    (deltaBits (deltaSeconds action)).toInt = deltaSeconds action := by
  cases action <;> decide

/-- The 12-bit total does not overflow (R73, D26). -/
theorem toNat_horizonTotal (horizon : BitVec 11) : (horizonTotal horizon).toNat = horizon.toNat + 10 := by
  have hlt := horizon.isLt
  simp only [horizonTotal, Config.horizonBase, BitVec.toNat_add, BitVec.toNat_setWidth, BitVec.toNat_ofNat]
  omega

/-- Whatever the three fields are, their interpretation fits the result registers (R129, R130). -/
theorem interpret_fits (horizon : BitVec 11) (offset : BitVec 7) (action : DeltaAction) :
    (interpret horizon offset action).Fits where
  year := by
    have hlt := horizon.isLt
    simp only [interpret, yearOf, Config.yearBase, toNat_horizonTotal]
    omega
  month := by
    simp only [interpret, monthOf]
    omega
  offset := offset.isLt
  delta := toInt_deltaBits_deltaSeconds action

/-- A payload that unpacks to a value unpacks to one that fits. -/
theorem fits_of_unpack_eq_ok {payload : BitVec 28} {a : Announced} (h : unpack payload = .ok a) : a.Fits := by
  simp only [unpack] at h
  split at h
  · cases h
  · cases h
    exact interpret_fits _ _ _

/-- A successful decode yields a value that fits the result registers. -/
theorem fits_of_decodeAnnouncement_eq_ok {raw : Word} {a : Announced} (h : decodeAnnouncement raw = .ok a) :
    a.Fits := by
  unfold decodeAnnouncement at h
  split at h
  · split at h
    · exact fits_of_unpack_eq_ok h
    · cases h
  · cases h

/-! ## What the host reads back -/

@[simp] theorem errorOfCode_statusOk : errorOfCode statusOk = none := rfl

@[simp] theorem errorOfCode_errorCode (k : ErrorKind) : errorOfCode (errorCode k) = some k := by
  cases k <;> rfl

theorem State.response_respondCrc (c : BitVec 8) {s : State} (hop : s.op = 0#1) :
    (s.respondCrc c).response = some (.crc c) := by
  simp [State.response, hop]

theorem State.response_raiseError (k : ErrorKind) {s : State} (hop : s.op ≠ 0#1) :
    (s.raiseError k).response = some (.err k) := by
  simp [State.response, hop]

theorem State.response_respondOk {a : Announced} (ha : a.Fits) {s : State} (hop : s.op ≠ 0#1) :
    (s.respondOk a).response = some (.ok a) := by
  obtain ⟨hyear, hmonth, hoffset, hdelta⟩ := ha
  simp only [Nat.reducePow] at hyear hmonth hoffset
  simp [State.response, hop, hdelta, Nat.mod_eq_of_lt, hyear, hmonth, hoffset]

/-- The response registers lose nothing of a decode outcome whose value, if it has one, fits them (R136). -/
theorem State.response_respondDecode {r : DecodeResult} (hr : ∀ a, r = .ok a → a.Fits) {s : State}
    (hop : s.op ≠ 0#1) : (s.respondDecode r).response = some (responseOfDecode r) := by
  cases r with
  | ok a => exact State.response_respondOk (hr a rfl) hop
  | err k => exact State.response_raiseError k hop

/-! ## The response of each operation -/

/-- A `CHECKSUM` that answers leaves the checksum as its response (R111). -/
theorem response_of_execChecksum {len : BitVec 6} {message : Word} {s t : State} (hop : s.op = 0#1)
    (h : execChecksum len message s = .next t) :
    LegalLength len ∧ t.response = some (.crc (checksum message len.toNat)) := by
  by_cases hlen : LegalLength len
  · rw [execChecksum_of_legal hlen] at h
    cases h
    exact ⟨hlen, State.response_respondCrc _ hop⟩
  · rw [execChecksum_of_not_legal hlen] at h
    cases h

/-- A `DECODE` leaves the decoder's outcome as its response (R136). -/
theorem response_of_execDecode {len : BitVec 6} {raw : Word} {s t : State} (hop : s.op ≠ 0#1)
    (h : execDecode len raw s = .next t) :
    t.response = some (responseOfDecode (decodeAnnouncement raw)) := by
  rw [execDecode_eq] at h
  cases h
  refine State.response_respondDecode (fun _ => fits_of_decodeAnnouncement_eq_ok) ?_
  split <;> exact hop

/-- Settles O44: the two operations answer `respOf` by their own response lemmas, which ask nothing of the state but which
operation is latched. -/
theorem responsesDependOnTheRequestAlone : Obligations.ResponsesDependOnTheRequestAlone := by
  intro r s t hlatched hexec
  have hop : s.op = r.op := congrArg Request.op hlatched
  rw [decodeReq_word] at hexec
  by_cases hr : r.op = 0#1
  · rw [if_pos hr, exec_checksum] at hexec
    obtain ⟨hlen, hresp⟩ := response_of_execChecksum (hop.trans hr) hexec
    simp only [respOf, if_pos hr, if_pos hlen, hresp]
  · rw [if_neg hr, exec_decode] at hexec
    simp only [respOf, if_neg hr, response_of_execDecode (hop ▸ hr) hexec]

end Sys2Proof.Machine

/-! What an edge does to `BUSY` and to the operand latches (R23, R25), and what the ports show of the state, after reset
among others (R27, R32). -/

namespace Sys2Proof.Machine

/-! ## When the next edge is of a given kind -/

theorem State.edge_eq_reset_iff (s : State) : s.edge = .reset ↔ s.pins.rst = true := by
  obtain ⟨hrst, he⟩ | ⟨hrst, -, -, he⟩ | ⟨hrst, -, -, he⟩ | ⟨hrst, -, -, he⟩ | ⟨hrst, -, -, he⟩ := s.edge_cases <;>
    simp [*]

theorem State.edge_eq_wait_iff (s : State) :
    s.edge = .wait ↔ s.pins.rst = false ∧ s.busy = true ∧ s.wait ≠ 0 := by
  obtain ⟨hrst, he⟩ | ⟨-, -, hwait, he⟩ | ⟨hrst, hbusy, hwait, he⟩ | ⟨-, hbusy, -, he⟩ | ⟨-, hbusy, -, he⟩ :=
    s.edge_cases <;> simp [*]

theorem State.edge_eq_accept_iff (s : State) (r : Request) :
    s.edge = .accept r ↔
      s.pins.rst = false ∧ s.busy = false ∧ s.pins.reqValid = true ∧ requestOnPins s.pins = r := by
  obtain ⟨hrst, he⟩ | ⟨-, hbusy, -, he⟩ | ⟨-, hbusy, -, he⟩ | ⟨hrst, hbusy, hreq, he⟩ | ⟨-, -, hreq, he⟩ :=
    s.edge_cases <;> simp [*]

theorem State.edge_eq_idle_iff (s : State) :
    s.edge = .idle ↔ s.pins.rst = false ∧ s.busy = false ∧ s.pins.reqValid = false := by
  obtain ⟨hrst, he⟩ | ⟨-, hbusy, -, he⟩ | ⟨-, hbusy, -, he⟩ | ⟨-, -, hreq, he⟩ | ⟨hrst, hbusy, hreq, he⟩ :=
    s.edge_cases <;> simp [*]

/-! ## The operand latches under each update -/

@[simp] theorem State.latched_sampled (s : State) : s.sampled.latched = s.latched := rfl
@[simp] theorem State.latched_drawWork (s : State) : s.drawWork.latched = s.latched := rfl
@[simp] theorem State.latched_runEngine (m : Word) (n : Nat) (s : State) : (s.runEngine m n).latched = s.latched := rfl
@[simp] theorem State.latched_waitEdge (s : State) : s.waitEdge.latched = s.latched := rfl
@[simp] theorem State.latched_idleEdge (s : State) : s.idleEdge.latched = s.latched := rfl
@[simp] theorem State.latched_acceptEdge (r : Request) (s : State) : (s.acceptEdge r).latched = r := rfl

/-! ## Completion: `BUSY` falls, the latches stay (R23, R25, R153) -/

theorem Completed.latched_eq {s t : State} (h : Completed s t) : t.latched = s.latched := by
  simp only [State.latched, h.op, h.opr, h.len]

/-- Of the state it starts from, a completion speaks of the latches only. -/
theorem Completed.of_latched_eq {u s t : State} (h : Completed u t) (hlatched : u.latched = s.latched) :
    Completed s t where
  busy := h.busy
  rspValid := h.rspValid
  op := h.op.trans (congrArg Request.op hlatched)
  opr := h.opr.trans (congrArg Request.data hlatched)
  len := h.len.trans (congrArg Request.len hlatched)

theorem State.completed_respondCrc (c : BitVec 8) (s : State) : Completed s (s.respondCrc c) :=
  ⟨rfl, rfl, rfl, rfl, rfl⟩

theorem State.completed_respondDecode (r : DecodeResult) (s : State) : Completed s (s.respondDecode r) := by
  obtain ⟨hbusy, hvalid, hop, hopr, hlen, -⟩ := s.respondDecode_frame r
  exact ⟨hbusy, hvalid, hop, hopr, hlen⟩

theorem completed_of_execChecksum {len : BitVec 6} {message : Word} {s t : State}
    (h : execChecksum len message s = .next t) : Completed s t := by
  by_cases hlen : LegalLength len
  · rw [execChecksum_of_legal hlen] at h
    cases h
    exact (State.completed_respondCrc _ _).of_latched_eq (s.latched_runEngine _ _)
  · rw [execChecksum_of_not_legal hlen] at h
    cases h

theorem completed_of_execDecode {len : BitVec 6} {raw : Word} {s t : State}
    (h : execDecode len raw s = .next t) : Completed s t := by
  rw [execDecode_eq] at h
  cases h
  refine (State.completed_respondDecode _ _).of_latched_eq ?_
  split
  · exact s.latched_runEngine _ _
  · exact s.latched_drawWork

/-- Whichever operation a request asks for, its run completes it (R153). -/
theorem completed_of_exec_decodeReq {r : Request} {s t : State} (h : exec (decodeReq r.word) s = .next t) :
    Completed s t := by
  rw [decodeReq_word] at h
  by_cases hop : r.op = 0#1
  · rw [if_pos hop, exec_checksum] at h
    exact completed_of_execChecksum h
  · rw [if_neg hop, exec_decode] at h
    exact completed_of_execDecode h

/-- At a completing edge the state before the edge and the state with its ports sampled have the same latches. -/
theorem completed_of_exec_latchedInstr {s t : State} (h : exec s.latchedInstr s.sampled = .next t) : Completed s t :=
  (completed_of_exec_decodeReq h).of_latched_eq s.latched_sampled

/-! ## What the ports show (R25, R26, R27) -/

theorem State.outPins_reqReady (s : State) : s.outPins.reqReady = !s.busy := rfl

theorem State.outPins_rspValid (s : State) : s.outPins.rspValid = s.rspValid := rfl

/-- The request latches are not among the registers the output ports show (R23, R27). -/
theorem State.outPins_with_latches (s : State) (r : Request) :
    ({ s with op := r.op, opr := r.data, len := r.len } : State).outPins = s.outPins :=
  rfl

theorem State.response_eq_none {s : State} (h : s.rspValid = false) : s.response = none := by
  simp [State.response, h]

/-! ## The two invariants of an edge -/

/-- `BUSY` after an edge (R25). -/
theorem busy_after_step_iff {s t : State} (h : step s = .next t) :
    t.busy = true ↔
      (∃ r, s.edge = .accept r) ∨ (s.busy = true ∧ s.edge ≠ .complete ∧ s.edge ≠ .reset) := by
  obtain ⟨he, rfl⟩ | ⟨he, hexec⟩ | ⟨he, rfl⟩ | ⟨r, he, -, rfl⟩ | ⟨he, rfl⟩ := step_cases h
  case inl => simp [he]
  case inr.inl => simp [he, (completed_of_exec_latchedInstr hexec).busy]
  case inr.inr.inl =>
    obtain ⟨-, hbusy, -⟩ := s.edge_eq_wait_iff.mp he
    simp [he, hbusy]
  case inr.inr.inr.inl => simp [he]
  case inr.inr.inr.inr =>
    obtain ⟨-, hbusy, -⟩ := s.edge_eq_idle_iff.mp he
    simp [he, hbusy]

/-- The latches after an edge without reset that accepts nothing (R23). -/
theorem latched_after_step_of_not_accept {s t : State} (h : step s = .next t) (hrst : s.edge ≠ .reset)
    (hacc : ∀ r, s.edge ≠ .accept r) : t.latched = s.latched := by
  obtain ⟨he, -⟩ | ⟨-, hexec⟩ | ⟨-, rfl⟩ | ⟨r, he, -⟩ | ⟨-, rfl⟩ := step_cases h
  case inl => exact absurd he hrst
  case inr.inl => exact (completed_of_exec_latchedInstr hexec).latched_eq
  case inr.inr.inl => simp
  case inr.inr.inr.inl => exact absurd he (hacc r)
  case inr.inr.inr.inr => simp

/-- The latches after an accepting edge are the accepted request (R151). -/
theorem latched_after_step_of_accept {s t : State} {r : Request} (h : step s = .next t) (he : s.edge = .accept r) :
    t.latched = r := by
  obtain ⟨he', -⟩ | ⟨he', -⟩ | ⟨he', -⟩ | ⟨r', he', -, rfl⟩ | ⟨he', -⟩ := step_cases h <;> rw [he] at he' <;>
    cases he'
  exact State.latched_acceptEdge r _

/-! ## The obligations -/

/-- Settles O41, by the effect of each kind of edge on `BUSY`. -/
theorem busyFollowsAcceptanceAndCompletion : Obligations.BusyFollowsAcceptanceAndCompletion :=
  ⟨fun _ _ => busy_after_step_iff, State.outPins_reqReady, rfl⟩

/-- Settles O42: an edge without reset either accepts what stands on the ports or leaves the latches alone. -/
theorem latchesChangeOnlyAtAcceptance : Obligations.LatchesChangeOnlyAtAcceptance := by
  refine ⟨fun s t h hrst => ?_, State.outPins_with_latches⟩
  by_cases hacc : s.busy = false ∧ s.pins.reqValid = true
  · obtain ⟨hbusy, hreq⟩ := hacc
    have he : s.edge = .accept (requestOnPins s.pins) := (s.edge_eq_accept_iff _).mpr ⟨hrst, hbusy, hreq, rfl⟩
    exact .inl ⟨hbusy, hreq, latched_after_step_of_accept h he⟩
  · refine .inr ⟨hacc, latched_after_step_of_not_accept h (fun he => ?_) (fun r he => hacc ?_)⟩
    · exact absurd (s.edge_eq_reset_iff.mp he) (by simp [hrst])
    · obtain ⟨-, hbusy, hreq, -⟩ := (s.edge_eq_accept_iff r).mp he
      exact ⟨hbusy, hreq⟩

/-- Settles O40, by what the ports and the host read from `BUSY` 0 and `RSP_VALID` 0. -/
theorem resetLeavesTheBlockReady : Obligations.ResetLeavesTheBlockReady :=
  have hbusy : State.reset.busy = false := rfl
  have hvalid : State.reset.rspValid = false := rfl
  ⟨hbusy, hvalid, by rw [State.outPins_reqReady, hbusy, Bool.not_false], by rw [State.outPins_rspValid, hvalid],
    State.response_eq_none hvalid⟩

end Sys2Proof.Machine

/-! Operands in their words: the octets of a dotted quad (R51), and the message bits that a checksum does not read (R53). -/

namespace Sys2Proof

/-! ## The octets of a quad -/

/-- The shifts of R51 put the octets one after another, the first at the top. -/
theorem quad_eq_append (a b c d : Octet) : quad a b c d = a ++ b ++ c ++ d :=
  calc quad a b c d
      = (a ++ b ++ c ++ d).setWidth 32 := by
        rw [BitVec.setWidth_append_append_append_eq_shiftLeft_setWidth_or, quad]
    _ = a ++ b ++ c ++ d := BitVec.setWidth_eq _

/-- A slice above the last octet is a slice of what stands before that octet. -/
theorem extractLsb'_append_octet {n : Nat} (x : BitVec n) (y : Octet) (start len : Nat) :
    (x ++ y).extractLsb' (start + 8) len = x.extractLsb' start len :=
  BitVec.extractLsb'_append_eq_of_le (Nat.le_add_left 8 start)

/-- Every slice from bit 24 up is a slice of the first octet: the octet itself, or its high nibble. -/
theorem quad_first_slice (a b c d : Octet) (start len : Nat) :
    (quad a b c d).extractLsb' (start + 24) len = a.extractLsb' start len := by
  rw [quad_eq_append]
  calc (a ++ b ++ c ++ d).extractLsb' (start + 24) len
      = (a ++ b ++ c).extractLsb' (start + 16) len := extractLsb'_append_octet _ d (start + 16) len
    _ = (a ++ b).extractLsb' (start + 8) len := extractLsb'_append_octet _ c (start + 8) len
    _ = a.extractLsb' start len := extractLsb'_append_octet a b start len

theorem quad_first (a b c d : Octet) : (quad a b c d).extractLsb' 24 8 = a :=
  (quad_first_slice a b c d 0 8).trans BitVec.extractLsb'_eq_self

theorem quad_second (a b c d : Octet) : (quad a b c d).extractLsb' 16 8 = b := by
  rw [quad_eq_append]
  calc (a ++ b ++ c ++ d).extractLsb' 16 8
      = (a ++ b ++ c).extractLsb' 8 8 := extractLsb'_append_octet _ d 8 8
    _ = (a ++ b).extractLsb' 0 8 := extractLsb'_append_octet _ c 0 8
    _ = b := BitVec.extractLsb'_append_eq_right

theorem quad_third (a b c d : Octet) : (quad a b c d).extractLsb' 8 8 = c := by
  rw [quad_eq_append]
  calc (a ++ b ++ c ++ d).extractLsb' 8 8
      = (a ++ b ++ c).extractLsb' 0 8 := extractLsb'_append_octet _ d 0 8
    _ = c := BitVec.extractLsb'_append_eq_right

theorem quad_fourth (a b c d : Octet) : (quad a b c d).extractLsb' 0 8 = d := by
  rw [quad_eq_append]
  exact BitVec.extractLsb'_append_eq_right

end Sys2Proof

namespace Sys2Proof.Machine

/-! ## The sentinel of a quad (R51, R121) -/

theorem sentinelOf_quad (a b c d : Octet) : sentinelOf (quad a b c d) = a.extractLsb' 4 4 :=
  quad_first_slice a b c d 4 4

/-- An octet whose high nibble is the sentinel is at least 240. -/
theorem le_toNat_of_highNibble_eq_sentinel {a : Octet} (h : a.extractLsb' 4 4 = Config.sentinel) : 240 ≤ a.toNat := by
  have hnibble : a.toNat / 2 ^ 4 % 2 ^ 4 = 15 := by
    rw [← Nat.shiftRight_eq_div_pow, ← BitVec.extractLsb'_toNat, h]
    rfl
  omega

/-- Step 1 comes before any success: a word that decodes has the sentinel (R121). -/
theorem sentinelOf_eq_of_decodeAnnouncement_eq_ok {raw : Word} {v : Announced} (h : decodeAnnouncement raw = .ok v) :
    sentinelOf raw = Config.sentinel := by
  by_contra hsent
  rw [decodeAnnouncement, if_neg hsent] at h
  cases h

/-- Settles O6, by the slices of a quad; the bound on the first octet comes from step 1 of the decoder. -/
theorem quadIsBigEndian : Obligations.QuadIsBigEndian := by
  refine ⟨fun a b c d => ⟨quad_first a b c d, quad_second a b c d, quad_third a b c d, quad_fourth a b c d,
    sentinelOf_quad a b c d, fun v hok => ?_⟩, by decide⟩
  have hsent := sentinelOf_eq_of_decodeAnnouncement_eq_ok hok
  rw [sentinelOf_quad] at hsent
  exact le_toNat_of_highNibble_eq_sentinel hsent

/-! ## The bits of a message (R52, R53) -/

/-- The alignment drops the message bits from `n` up: it is multiplication by `2 ^ (32 - n)` modulo `2 ^ 32`. -/
theorem alignMessage_mod {n : Nat} (hn : n ≤ 32) (m : Word) :
    alignMessage (BitVec.ofNat 32 (m.toNat % 2 ^ n)) n = alignMessage m n := by
  have hpow : 2 ^ 32 = 2 ^ n * 2 ^ (32 - n) := by rw [← Nat.pow_add, Nat.add_sub_cancel' hn]
  apply BitVec.eq_of_toNat_eq
  simp only [alignMessage, Config.accW, BitVec.toNat_shiftLeft, BitVec.toNat_ofNat, Nat.shiftLeft_eq, hpow,
    Nat.mul_mod_mul_right, Nat.mod_mul_right_mod, Nat.mod_mod]

/-- The engine reads the message in its aligned form only (R101). -/
theorem checksum_eq_of_alignMessage_eq {m m' : Word} {n : Nat} (h : alignMessage m n = alignMessage m' n) :
    checksum m n = checksum m' n := by
  rw [checksum, engineStart, h, checksum, engineStart]

/-- Settles O10: both messages are the same once aligned. -/
theorem checksumIgnoresHighMessageBits : Obligations.ChecksumIgnoresHighMessageBits :=
  ⟨fun m _ _ hn => checksum_eq_of_alignMessage_eq (alignMessage_mod hn m).symm, by decide +kernel⟩

end Sys2Proof.Machine

/-! The request word (R76), and what the length of a request decides: whether a `CHECKSUM` is accepted, and nothing for a
`DECODE` (R77, R156). -/

namespace Sys2Proof.Machine

/-! ## The request word (R76) -/

@[simp] theorem requestOf_word (r : Request) : requestOf r.word = r := by
  simp only [requestOf, Request.word_op, Request.word_len, Request.word_data]

theorem decodeReq_word_of_checksum {r : Request} (hop : r.op = 0#1) : decodeReq r.word = .checksum r.len r.data := by
  rw [decodeReq_word, if_pos hop]

theorem decodeReq_word_of_decode {r : Request} (hop : r.op = 1#1) : decodeReq r.word = .decode r.len r.data := by
  rw [decodeReq_word, if_neg (by simp [hop])]

/-- Settles O5, by the three slices of a request word; the two example words are evaluated. -/
theorem requestWordLayout : Obligations.RequestWordLayout := fun r =>
  ⟨Request.word_op r, Request.word_len r, Request.word_data r, requestOf_word r, decodeReq_word_of_checksum,
    decodeReq_word_of_decode, by decide, by decide⟩

/-! ## The accepting edge (R150, R156) -/

theorem State.pins_of_script {s : State} {p : Pins} {ps : List Pins} (h : s.script = p :: ps) : s.pins = p := by
  rw [State.pins, h, List.headD_cons]

/-- A ready block accepts what the host presents at the next edge (R150). -/
theorem State.edge_eq_accept_of_script {s : State} {p : Pins} {ps : List Pins} (hscript : s.script = p :: ps)
    (hrst : p.rst = false) (hreq : p.reqValid = true) (hbusy : s.busy = false) :
    s.edge = .accept (requestOnPins p) := by
  obtain rfl := State.pins_of_script hscript
  exact (s.edge_eq_accept_iff _).mpr ⟨hrst, hbusy, hreq, rfl⟩

theorem step_of_edge_accept {s : State} {r : Request} (he : s.edge = .accept r) : step s = s.sampled.accept r := by
  simp only [step, he]

/-- An accepting edge with a legal request starts the operation (R151). -/
theorem step_busy_of_accept_legal {s : State} {r : Request} (he : s.edge = .accept r) (hlegal : r.Legal) :
    ∃ t, step s = .next t ∧ t.busy = true :=
  ⟨s.sampled.acceptEdge r, (step_of_edge_accept he).trans (if_pos hlegal), State.acceptEdge_busy r _⟩

/-- An accepting edge with an illegal request is refused (R156). -/
theorem step_refused_of_accept_not_legal {s : State} {r : Request} (he : s.edge = .accept r) (hlegal : ¬ r.Legal) :
    step s = .refused (.reservedLength r.len) :=
  (step_of_edge_accept he).trans (if_neg hlegal)

/-! ## Legal requests (R77) -/

theorem Request.legal_of_decode {r : Request} (hop : r.op = 1#1) : r.Legal := fun hop' => by
  simp [hop] at hop'

theorem Request.not_legal_of_reserved {r : Request} (hop : r.op = 0#1) (hlen : r.len.toNat = 0 ∨ 33 ≤ r.len.toNat) :
    ¬ r.Legal := fun hlegal => by
  obtain ⟨hlo, hhi⟩ := hlegal hop
  rw [Config.accW] at hhi
  omega

/-! ## A state with another `LEN` -/

/-- The state with another content of `LEN`. -/
def State.withLen (l : BitVec 6) (s : State) : State := { s with len := l }

/-- Which kind an edge is does not depend on the latches. -/
theorem State.edge_withLen (l : BitVec 6) (s : State) : (s.withLen l).edge = s.edge := rfl

theorem State.sampled_withLen (l : BitVec 6) (s : State) : (s.withLen l).sampled = s.sampled.withLen l := rfl

theorem State.runEngine_withLen (m : Word) (n : Nat) (l : BitVec 6) (s : State) :
    (s.withLen l).runEngine m n = (s.runEngine m n).withLen l := rfl

theorem State.drawWork_withLen (l : BitVec 6) (s : State) : (s.withLen l).drawWork = s.drawWork.withLen l := rfl

theorem State.respondDecode_withLen (r : DecodeResult) (l : BitVec 6) (s : State) :
    (s.withLen l).respondDecode r = (s.respondDecode r).withLen l := by
  cases r <;> rfl

/-! ## `DECODE` does not read its length (R77) -/

theorem exec_decode_len_irrelevant (l₁ l₂ : BitVec 6) (raw : Word) (s : State) :
    exec (.decode l₁ raw) s = exec (.decode l₂ raw) s := by
  rw [exec_decode, exec_decode, execDecode_eq, execDecode_eq]

/-- `DECODE` answers, and neither its own length nor the register `LEN` has an effect on the answer but that `LEN`
stays. -/
theorem execDecode_withLen (len len' l : BitVec 6) (raw : Word) (s : State) :
    ∃ t, execDecode len raw s = .next t ∧ execDecode len' raw (s.withLen l) = .next (t.withLen l) := by
  refine ⟨_, execDecode_eq len raw s, ?_⟩
  rw [execDecode_eq, State.runEngine_withLen, State.drawWork_withLen, ← apply_ite, State.respondDecode_withLen]

theorem step_of_edge_complete_decode {s : State} (he : s.edge = .complete) (hop : s.op = 1#1) :
    step s = execDecode s.len s.opr s.sampled := by
  have hinstr : s.latchedInstr = .decode s.len s.opr := decodeReq_word_of_decode hop
  simp only [step, he, hinstr, exec_decode]

/-- An edge that completes a `DECODE` answers, and does the same with any other content of `LEN`. -/
theorem step_complete_decode_withLen {s : State} (l : BitVec 6) (he : s.edge = .complete) (hop : s.op = 1#1) :
    ∃ t, step s = .next t ∧ step (s.withLen l) = .next (t.withLen l) := by
  rw [step_of_edge_complete_decode he hop,
    step_of_edge_complete_decode (s := s.withLen l) ((s.edge_withLen l).trans he) hop, State.sampled_withLen]
  exact execDecode_withLen s.len l l s.opr s.sampled

/-- Settles O35: acceptance asks whether the request is legal, and only a `CHECKSUM` is asked for its length. -/
theorem reservedLengthIsRefusedAtAcceptance : Obligations.ReservedLengthIsRefusedAtAcceptance := by
  refine ⟨fun s p ps hscript hrst hreq hbusy => ?_, exec_decode_len_irrelevant,
    fun s l he hop => step_complete_decode_withLen l he hop⟩
  have he := State.edge_eq_accept_of_script hscript hrst hreq hbusy
  refine ⟨fun hop hlen => ?reserved, fun _ hlen => ?legal, fun hop => ?decode⟩
  case reserved => exact step_refused_of_accept_not_legal he (Request.not_legal_of_reserved hop hlen)
  case legal => exact step_busy_of_accept_legal he (fun _ => hlen)
  case decode => exact step_busy_of_accept_legal he (Request.legal_of_decode hop)

end Sys2Proof.Machine

/-! The checksum engine in the arithmetic of its rule (R101, R102), and the lengths for which `CHECKSUM` runs (R105,
R111). -/

namespace Sys2Proof.Machine

/-! ## The shifts of the engine as multiplications modulo `2 ^ 32` -/

theorem shiftLeft_eq_ofNat_mul_two_pow {w : Nat} (x : BitVec w) (k : Nat) : x <<< k = BitVec.ofNat w (x.toNat * 2 ^ k) := by
  apply BitVec.eq_of_toNat_eq
  rw [BitVec.toNat_shiftLeft, BitVec.toNat_ofNat, Nat.shiftLeft_eq]

theorem alignMessage_eq_ofNat (m : Word) (n : Nat) : alignMessage m n = BitVec.ofNat 32 (m.toNat * 2 ^ (32 - n)) :=
  shiftLeft_eq_ofNat_mul_two_pow m (32 - n)

/-- The alignment leaves zeros below the message (R101). -/
theorem getLsbD_alignMessage_of_lt {n i : Nat} (hi : i < 32 - n) (m : Word) : (alignMessage m n).getLsbD i = false := by
  simp only [alignMessage, Config.accW, BitVec.getLsbD_shiftLeft, hi, decide_true, Bool.not_true, Bool.and_false,
    Bool.false_and]

/-! ## One iteration (R102) -/

theorem poly32_eq : Config.poly32 = 0x97800000#32 := by decide

/-- The polynomial has bit 31, so its exclusive or clears a bit 31 that is set. -/
theorem getLsbD_xor_poly32 {acc : Word} (h : acc.getLsbD 31 = true) : (acc ^^^ Config.poly32).getLsbD 31 = false := by
  have hpoly : Config.poly32.getLsbD 31 = true := by decide
  rw [BitVec.getLsbD_xor, h, hpoly, Bool.xor_self]

theorem accIterate_of_top_set {acc : Word} (h : acc.getLsbD 31 = true) :
    accIterate acc = BitVec.ofNat 32 (2 * (acc ^^^ Config.poly32).toNat) := by
  rw [accIterate, if_pos h, shiftLeft_eq_ofNat_mul_two_pow, Nat.pow_one, Nat.mul_comm]

theorem accIterate_of_top_clear {acc : Word} (h : acc.getLsbD 31 = false) :
    accIterate acc = BitVec.ofNat 32 (2 * acc.toNat) := by
  rw [accIterate, if_neg (Bool.eq_false_iff.mp h), shiftLeft_eq_ofNat_mul_two_pow, Nat.pow_one, Nat.mul_comm]

/-! ## The iteration counter -/

/-- `CNT` counts the iterations, in its six bits (R102). -/
theorem engineRun_cnt (n : Nat) (e : EngineRegs) : (engineRun n e).cnt = e.cnt + BitVec.ofNat 6 n := by
  induction n with
  | zero => exact (BitVec.add_zero e.cnt).symm
  | succ n ih => rw [engineRun_succ, engineIterate, ih, BitVec.add_assoc, BitVec.ofNat_add]

/-- A computation of a legal length ends with that length in `CNT`, which six bits hold (R102). -/
theorem engineRun_engineStart_cnt {n : Nat} (hn : n ≤ 32) (m : Word) : (engineRun n (engineStart m n)).cnt.toNat = n := by
  rw [engineRun_cnt, engineStart, BitVec.zero_add, BitVec.toNat_ofNat]
  exact Nat.mod_eq_of_lt (by omega)

/-! ## `CHECKSUM` at each length (R105, R111) -/

/-- A `CHECKSUM` of a legal length completes with status 0 and its value (R111). -/
theorem exec_checksum_of_legal {len : BitVec 6} (hlen : LegalLength len) (m : Word) (s : State) :
    ∃ t, exec (.checksum len m) s = .next t ∧ Completed s t ∧ t.rspStatus = statusOk ∧
      t.rspCrc = checksum m len.toNat := by
  have hexec := (exec_checksum len m s).trans (execChecksum_of_legal hlen m s)
  exact ⟨_, hexec, completed_of_execChecksum hexec, State.respondCrc_rspStatus _ _, State.respondCrc_rspCrc _ _⟩

/-- A `CHECKSUM` of a reserved length is refused, as its request is at acceptance (R105, R156). -/
theorem exec_checksum_of_reserved {len : BitVec 6} (hlen : len.toNat = 0 ∨ 33 ≤ len.toNat) (m : Word) (s : State) :
    exec (.checksum len m) s = .refused (.reservedLength len) := by
  have hreserved : ¬ LegalLength len := fun hlegal =>
    Request.not_legal_of_reserved (r := checksumLine m len) rfl hlen fun _ => hlegal
  rw [exec_checksum, execChecksum_of_not_legal hreserved]

/-! ## The obligations -/

/-- Settles O17: a length in 1..32 is a legal one. -/
theorem checksumCompletesWithItsValue : Obligations.ChecksumCompletesWithItsValue :=
  fun _ m s hlo hhi => exec_checksum_of_legal ⟨hlo, hhi⟩ m s

/-- Settles O9, by one equation for each value of bit 31, and the count of a whole run. -/
theorem engineIterationRule : Obligations.EngineIterationRule := by
  refine ⟨fun e => ⟨fun htop => ?set, fun htop => ?clear, rfl⟩, fun m _ _ hn => engineRun_engineStart_cnt hn m⟩
  case set => exact poly32_eq ▸ ⟨accIterate_of_top_set htop, getLsbD_xor_poly32 htop⟩
  case clear => exact accIterate_of_top_clear htop

/-- Settles O8: the aligned message is the multiple the rule speaks of, and has no bits below `32 - n`. -/
theorem engineStartsFromSeedAndAlignedMessage : Obligations.EngineStartsFromSeedAndAlignedMessage := by
  refine fun m n _ _ => ⟨?acc, rfl, fun i hi => ?low⟩
  case acc => rw [engineStart, alignMessage_eq_ofNat, Config.seed]
  case low => rw [engineStart, BitVec.getLsbD_xor, getLsbD_alignMessage_of_lt hi, Bool.xor_false, Config.seed]

/-- Settles O19: the legal lengths complete with their value, and the others are refused. -/
theorem checksumRunsExactlyForLengthsOneToThirtyTwo : Obligations.ChecksumRunsExactlyForLengthsOneToThirtyTwo := by
  refine fun len m s => ⟨fun hlen => ?_, fun hlen => exec_checksum_of_reserved hlen m s⟩
  obtain ⟨t, hexec, -, -, hcrc⟩ := exec_checksum_of_legal hlen m s
  exact ⟨t, hexec, hcrc⟩

end Sys2Proof.Machine

/-! What a successful decode says of its word, field by field (R129), and the response every outcome of a `DECODE` leaves in
the result registers (R136). -/

namespace Sys2Proof.Machine

/-! ## The fields of a word by masks and shifts are slices of it (R71, R72) -/

/-- A mask of the `n` low bits, cut to `n` bits, takes the low slice. -/
theorem setWidth_and_lowMask {w n : Nat} {mask : BitVec w} (hn : n ≤ w) (hmask : mask.setWidth n = BitVec.allOnes n)
    (x : BitVec w) : (x &&& mask).setWidth n = x.extractLsb' 0 n := by
  rw [BitVec.setWidth_and, hmask, BitVec.and_allOnes, BitVec.setWidth_eq_extractLsb' hn]

/-- A slice of a slice is a slice; the library's lemma is about slices from bit 0 only. -/
theorem extractLsb'_extractLsb' {w start len start' len' : Nat} (h : start' + len' ≤ len) (x : BitVec w) :
    (x.extractLsb' start len).extractLsb' start' len' = x.extractLsb' (start + start') len' := by
  ext i hi
  have hi' : start' + i < len := by omega
  rw [BitVec.getElem_extractLsb', BitVec.getLsbD_extractLsb', BitVec.getElem_extractLsb', decide_eq_true hi',
    Bool.true_and, Nat.add_assoc]

theorem payload28_eq_slice (raw : Word) : payload28 raw = raw.extractLsb' 0 28 :=
  setWidth_and_lowMask (by decide) (by decide) raw

theorem fields20_payload28 (raw : Word) : fields20 (payload28 raw) = raw.extractLsb' 8 20 := by
  rw [fields20, BitVec.setWidth_ushiftRight_eq_extractLsb, payload28_eq_slice,
    extractLsb'_extractLsb' (by decide)]

theorem offsetMagnitude_fields20 (raw : Word) :
    offsetMagnitude (fields20 (payload28 raw)) = raw.extractLsb' 8 7 := by
  rw [offsetMagnitude, setWidth_and_lowMask (by decide) (by decide), fields20_payload28,
    extractLsb'_extractLsb' (by decide)]

theorem afterOffset_fields20 (raw : Word) : afterOffset (fields20 (payload28 raw)) = raw.extractLsb' 15 13 := by
  rw [afterOffset, BitVec.setWidth_ushiftRight_eq_extractLsb, fields20_payload28,
    extractLsb'_extractLsb' (by decide)]

theorem deltaCode_afterOffset (raw : Word) :
    deltaCode (afterOffset (fields20 (payload28 raw))) = raw.extractLsb' 15 2 := by
  rw [deltaCode, setWidth_and_lowMask (by decide) (by decide), afterOffset_fields20,
    extractLsb'_extractLsb' (by decide)]

theorem horizonField_afterOffset (raw : Word) :
    horizonField (afterOffset (fields20 (payload28 raw))) = raw.extractLsb' 17 11 := by
  rw [horizonField, BitVec.setWidth_ushiftRight_eq_extractLsb, afterOffset_fields20,
    extractLsb'_extractLsb' (by decide)]

/-! ## When a decode succeeds, and with what (R120 to R131) -/

/-- The steps after the residue check succeed exactly for a delta code with an action (R128), with the interpretation of the
three fields. -/
theorem unpack_payload28_eq_ok_iff (raw : Word) (v : Announced) :
    unpack (payload28 raw) = .ok v ↔
      ∃ action, deltaAction (raw.extractLsb' 15 2) = some action ∧
        v = interpret (raw.extractLsb' 17 11) (raw.extractLsb' 8 7) action := by
  simp only [unpack, offsetMagnitude_fields20, deltaCode_afterOffset, horizonField_afterOffset]
  cases deltaAction (raw.extractLsb' 15 2) with
  | none => simp
  | some action => simp [eq_comm]

/-- A decode succeeds exactly when the sentinel, the residue and the delta code are good (R121, R123, R128). -/
theorem decodeAnnouncement_eq_ok_iff (raw : Word) (v : Announced) :
    decodeAnnouncement raw = .ok v ↔
      sentinelOf raw = Config.sentinel ∧ residueGood (payload28 raw) = true ∧
        ∃ action, deltaAction (raw.extractLsb' 15 2) = some action ∧
          v = interpret (raw.extractLsb' 17 11) (raw.extractLsb' 8 7) action := by
  rw [← unpack_payload28_eq_ok_iff, decodeAnnouncement]
  by_cases hsent : sentinelOf raw = Config.sentinel
  · by_cases hresidue : residueGood (payload28 raw) = true
    · simp only [hsent, hresidue, if_true, true_and]
    · simp [hsent, hresidue]
  · simp [hsent]

/-! ## The interpretation of the fields (R129) -/

theorem interpret_year (horizon : BitVec 11) (offset : BitVec 7) (action : DeltaAction) :
    (interpret horizon offset action).year = 1971 + (horizon.toNat + 10) / 12 := by
  rw [interpret, yearOf, toNat_horizonTotal, Config.yearBase]

theorem interpret_month (horizon : BitVec 11) (offset : BitVec 7) (action : DeltaAction) :
    (interpret horizon offset action).month = 1 + (horizon.toNat + 10) % 12 := by
  rw [interpret, monthOf, toNat_horizonTotal]

/-- The delta of each of the three codes that have an action (R128, R129). -/
theorem deltaSeconds_of_deltaAction {code : BitVec 2} {action : DeltaAction} (h : deltaAction code = some action) :
    (code = 0#2 → deltaSeconds action = 0) ∧ (code = 1#2 → deltaSeconds action = -1) ∧
      (code = 2#2 → deltaSeconds action = 1) := by
  refine ⟨?_, ?_, ?_⟩ <;>
  · rintro rfl
    cases h
    rfl

/-- Settles O21: a success is the interpretation of the slices, which are those of the rule. -/
theorem decodeInterpretsItsFields : Obligations.DecodeInterpretsItsFields := by
  intro raw v hok
  obtain ⟨-, -, action, haction, rfl⟩ := (decodeAnnouncement_eq_ok_iff raw v).mp hok
  exact ⟨interpret_year _ _ _, interpret_month _ _ _, rfl, deltaSeconds_of_deltaAction haction⟩

/-! ## The response of each outcome (R136) -/

/-- `RSP_DELTA` of each action, as the rule lists it (R136). -/
theorem deltaBits_deltaSeconds (action : DeltaAction) :
    deltaBits (deltaSeconds action) =
      if deltaSeconds action = 0 then 0b00#2 else if deltaSeconds action = 1 then 0b01#2 else 0b11#2 := by
  cases action <;> rfl

/-- The success response holds a value that fits the result registers, field by field. -/
theorem State.holdsFields_respondOk {a : Announced} (ha : a.Fits) (s : State) :
    HoldsFields a.year a.month a.offsetSeconds (deltaBits a.delta) (s.respondOk a) where
  status := s.respondOk_rspStatus a
  year := (BitVec.toNat_ofNat _ _).trans (Nat.mod_eq_of_lt ha.year)
  month := (BitVec.toNat_ofNat _ _).trans (Nat.mod_eq_of_lt ha.month)
  offset := (BitVec.toNat_ofNat _ _).trans (Nat.mod_eq_of_lt ha.offset)
  delta := s.respondOk_rspDelta a

/-- A successful decode leaves its four values, delta in two's complement. -/
theorem State.respondOk_of_decodeAnnouncement_eq_ok {raw : Word} {v : Announced}
    (h : decodeAnnouncement raw = .ok v) (s : State) :
    HoldsFields v.year v.month v.offsetSeconds
        (if v.delta = 0 then 0b00#2 else if v.delta = 1 then 0b01#2 else 0b11#2) (s.respondOk v) ∧
      (s.respondOk v).rspDelta.toInt = v.delta := by
  have hfits := fits_of_decodeAnnouncement_eq_ok h
  obtain ⟨-, -, action, -, rfl⟩ := (decodeAnnouncement_eq_ok_iff raw v).mp h
  exact ⟨deltaBits_deltaSeconds action ▸ s.holdsFields_respondOk hfits, hfits.delta⟩

/-- `DECODE` completes for every word, with the response of its outcome to some state of the working registers. -/
theorem exec_decode_completes (len : BitVec 6) (raw : Word) (s : State) :
    ∃ u : State, exec (.decode len raw) s = .next (u.respondDecode (decodeAnnouncement raw)) ∧
      Completed s (u.respondDecode (decodeAnnouncement raw)) :=
  ⟨_, execDecode_eq len raw s, completed_of_execDecode (execDecode_eq len raw s)⟩

theorem State.respondDecode_rspStatus_of_err (s : State) {r : DecodeResult} {k : ErrorKind} (h : r = .err k) :
    (s.respondDecode r).rspStatus = errorCode k :=
  h ▸ s.raiseError_rspStatus k

/-- Settles O23: the success response holds the interpreted fields, and each error response its kind's code. -/
theorem decodeCompletesWithItsOutcome : Obligations.DecodeCompletesWithItsOutcome := by
  intro len raw s
  obtain ⟨u, hexec, hcompleted⟩ := exec_decode_completes len raw s
  refine ⟨_, hexec, hcompleted, fun v hok => ?_, u.respondDecode_rspStatus_of_err, u.respondDecode_rspStatus_of_err,
    u.respondDecode_rspStatus_of_err⟩
  rw [hok]
  exact u.respondOk_of_decodeAnnouncement_eq_ok hok

end Sys2Proof.Machine

/-! The edges around a request: what acceptance does (R151), which port levels an edge looks at (R150), and what an idle
edge leaves of a held response (R154). -/

namespace Sys2Proof.Machine

/-! ## Acceptance (R151) -/

theorem step_of_accept_legal {s : State} {r : Request} (he : s.edge = .accept r) (hlegal : r.Legal) :
    step s = .next (s.sampled.acceptEdge r) :=
  (step_of_edge_accept he).trans (if_pos hlegal)

/-- Settles O34: the accepting edge takes the request on the ports, and `State.acceptEdge` has the five effects. -/
theorem acceptanceLatchesTheRequest : Obligations.AcceptanceLatchesTheRequest := by
  intro s p ps hscript hrst hreq hbusy hlegal
  have he := State.edge_eq_accept_of_script hscript hrst hreq hbusy
  exact ⟨_, step_of_accept_legal he hlegal, State.acceptEdge_op _ _, State.acceptEdge_opr _ _, State.acceptEdge_len _ _,
    State.acceptEdge_busy _ _, State.acceptEdge_rspValid _ _⟩

/-! ## The port levels an edge looks at (R150, R200) -/

/-- While an operation is in progress, `rst` is the only port an edge looks at. -/
theorem State.edge_of_busy {s : State} (hbusy : s.busy = true) :
    s.edge = if s.pins.rst then .reset else if s.wait = 0 then .complete else .wait := by
  simp only [State.edge, hbusy, if_true]

/-- Without `req_valid`, `rst` is the only port an edge looks at. -/
theorem State.edge_of_no_request {s : State} (hreq : s.pins.reqValid = false) :
    s.edge = if s.pins.rst then .reset else if s.busy then (if s.wait = 0 then .complete else .wait) else .idle := by
  simp only [State.edge, hreq, Bool.false_eq_true, if_false]

/-- Whatever else the ports hold, the same `rst` makes the same kind of edge where no request can be accepted. -/
theorem State.edge_eq_of_unaccepted {s s' : State} (hrst : s.pins.rst = s'.pins.rst) (hbusy : s.busy = s'.busy)
    (hwait : s.wait = s'.wait)
    (h : s.pins.rst = true ∨ s.busy = true ∨ (s.pins.reqValid = false ∧ s'.pins.reqValid = false)) :
    s.edge = s'.edge := by
  obtain hreset | hbusy1 | ⟨hreq, hreq'⟩ := h
  case inl => rw [s.edge_eq_reset_iff.mpr hreset, s'.edge_eq_reset_iff.mpr (hrst.symm.trans hreset)]
  case inr.inl => rw [State.edge_of_busy hbusy1, State.edge_of_busy (hbusy.symm.trans hbusy1), hrst, hwait]
  case inr.inr => rw [State.edge_of_no_request hreq, State.edge_of_no_request hreq', hrst, hbusy, hwait]

/-- Of the ports at an edge, a step reads nothing that the kind of the edge does not say. -/
theorem step_eq_of_edge_eq {s s' : State} (he : s.edge = s'.edge) (hsampled : s.sampled = s'.sampled) :
    step s = step s' := by
  have hinstr : s.latchedInstr = s'.latchedInstr :=
    calc s.latchedInstr
        = s.sampled.latchedInstr := rfl
      _ = s'.sampled.latchedInstr := congrArg State.latchedInstr hsampled
      _ = s'.latchedInstr := rfl
  simp only [step, he, hinstr, hsampled]

/-- Settles O36: the accepting edges are those of `State.edge`, and port levels that cannot be an accepted request matter
only through the kind of the edge. -/
theorem onlyAcceptedRequestsLeaveATrace : Obligations.OnlyAcceptedRequestsLeaveATrace := by
  refine ⟨fun s r => (s.edge_eq_accept_iff r).trans ?_,
    fun s p q ps hrst h => step_eq_of_edge_eq (State.edge_eq_of_unaccepted hrst rfl rfl h) rfl⟩
  constructor
  · rintro ⟨hrst, hbusy, hreq, rfl⟩
    exact ⟨hrst, hreq, hbusy, rfl⟩
  · rintro ⟨hrst, hreq, hbusy, rfl⟩
    exact ⟨hrst, hbusy, hreq, rfl⟩

/-! ## The meaningful result registers (R26) -/

theorem State.crcReadable_iff (s : State) : s.crcReadable = true ↔ s.rspValid = true ∧ s.op = 0#1 := by
  simp [State.crcReadable]

theorem State.fieldsReadable_iff (s : State) :
    s.fieldsReadable = true ↔ s.rspValid = true ∧ s.op = 1#1 ∧ s.rspStatus = statusOk := by
  simp [State.fieldsReadable, and_assoc]

/-- The status is `OK` exactly when it is the code of no error kind (R170). -/
theorem errorOfCode_eq_none_iff : ∀ code : BitVec 2, errorOfCode code = none ↔ code = statusOk := by decide

/-! ## What the host reads of a held response (R26, R33) -/

theorem State.response_of_checksum {s : State} (hvalid : s.rspValid = true) (hop : s.op = 0#1) :
    s.response = some (.crc s.rspCrc) := by
  simp only [State.response, hvalid, hop, if_true]

theorem State.response_of_error {s : State} {k : ErrorKind} (hvalid : s.rspValid = true) (hop : s.op ≠ 0#1)
    (herr : errorOfCode s.rspStatus = some k) : s.response = some (.err k) := by
  simp only [State.response, hvalid, hop, herr, if_true, if_false]

theorem State.response_of_fields {s : State} (hvalid : s.rspValid = true) (hop : s.op ≠ 0#1)
    (hok : errorOfCode s.rspStatus = none) :
    s.response = some (.ok { year := s.rspYear.toNat, month := s.rspMonth.toNat,
                             offsetSeconds := s.rspOffset.toNat, delta := s.rspDelta.toInt }) := by
  simp only [State.response, hvalid, hop, hok, if_true, if_false]

/-- The host reads meaningful registers only, so it does not see the others drawn afresh (R154). -/
@[simp] theorem State.response_drawResults (s : State) : s.drawResults.response = s.response := by
  cases hvalid : s.rspValid with
  | false => rw [State.response_eq_none hvalid, State.response_eq_none (s.drawResults_rspValid.trans hvalid)]
  | true =>
    have hstatus : s.drawResults.rspStatus = s.rspStatus := s.drawResults_status hvalid
    by_cases hop : s.op = 0#1
    · have hcrc := s.drawResults_crc (s.crcReadable_iff.mpr ⟨hvalid, hop⟩)
      rw [State.response_of_checksum (s := s.drawResults) hvalid hop, State.response_of_checksum hvalid hop, hcrc]
    · cases herr : errorOfCode s.rspStatus with
      | some k =>
        rw [State.response_of_error (s := s.drawResults) hvalid hop (hstatus ▸ herr),
          State.response_of_error hvalid hop herr]
      | none =>
        have hop1 : s.op = 1#1 := (BitVec.eq_zero_or_eq_one s.op).resolve_left hop
        obtain ⟨hyear, hmonth, hoffset, hdelta⟩ := s.drawResults_fields
          (s.fieldsReadable_iff.mpr ⟨hvalid, hop1, (errorOfCode_eq_none_iff _).mp herr⟩)
        rw [State.response_of_fields (s := s.drawResults) hvalid hop (hstatus ▸ herr),
          State.response_of_fields hvalid hop herr, hyear, hmonth, hoffset, hdelta]

/-! ## An idle edge (R154) -/

theorem State.response_idleEdge (s : State) : s.idleEdge.response = s.response := s.response_drawResults

theorem step_of_edge_idle {s : State} (he : s.edge = .idle) : step s = .next s.sampled.idleEdge := by
  simp only [step, he]

/-- Settles O38: an idle edge redraws the result registers that are not meaningful, and keeps the meaningful ones. -/
theorem aHeldResponseIsStable : Obligations.AHeldResponseIsStable := by
  intro s hrst hbusy hreq
  have he : s.edge = .idle := s.edge_eq_idle_iff.mpr ⟨hrst, hbusy, hreq⟩
  refine ⟨s.sampled.idleEdge, step_of_edge_idle he, hbusy, State.idleEdge_rspValid _, State.latched_idleEdge _,
    fun hvalid => ?status, fun hvalid hop => ?crc, fun hvalid hop hok => ?fields, State.response_idleEdge _⟩
  case status => exact s.sampled.drawResults_status hvalid
  case crc => exact s.sampled.drawResults_crc (s.sampled.crcReadable_iff.mpr ⟨hvalid, hop⟩)
  case fields => exact s.sampled.drawResults_fields (s.sampled.fieldsReadable_iff.mpr ⟨hvalid, hop, hok⟩)

end Sys2Proof.Machine

/-! Which outcome a word has in every combination of the three error conditions (R173). -/

namespace Sys2Proof.Machine

/-! ## The condition of step 3 over the masked word (R122, R123) -/

/-- The 28 payload bits, widened again, are the word with its sentinel masked out. -/
theorem setWidth_payload28 (raw : Word) : (payload28 raw).setWidth 32 = raw &&& 0x0FFFFFFF#32 := by
  apply BitVec.eq_of_toNat_eq
  have hlt : (raw &&& 0x0FFFFFFF#32).toNat < 2 ^ 28 :=
    (BitVec.toNat_and _ _).trans_lt (Nat.and_lt_two_pow _ (by decide))
  rw [payload28, BitVec.toNat_setWidth_of_le (by decide), BitVec.toNat_setWidth, Nat.mod_eq_of_lt hlt]

theorem residueGood_payload28_iff (raw : Word) :
    residueGood (payload28 raw) = true ↔ checksum (raw &&& 0x0FFFFFFF#32) 28 = 0x80#8 := by
  rw [residueGood, setWidth_payload28, beq_iff_eq, Config.payloadW, Config.residue]

/-! ## The outcome at each step (R121, R123, R128) -/

/-- Step 1: a bad sentinel is reported before anything else is looked at. -/
theorem decodeAnnouncement_of_sentinel_ne {raw : Word} (hsent : sentinelOf raw ≠ Config.sentinel) :
    decodeAnnouncement raw = .err .badFormat :=
  if_neg hsent

/-- Step 3: behind a good sentinel, a bad residue is reported before the fields are looked at. -/
theorem decodeAnnouncement_of_residue_bad {raw : Word} (hsent : sentinelOf raw = Config.sentinel)
    (hresidue : ¬ residueGood (payload28 raw) = true) : decodeAnnouncement raw = .err .integrityFailure := by
  rw [decodeAnnouncement, if_pos hsent, if_neg hresidue]

/-- Behind the two checks of the word as a whole, the outcome is that of its fields. -/
theorem decodeAnnouncement_of_residue_good {raw : Word} (hsent : sentinelOf raw = Config.sentinel)
    (hresidue : residueGood (payload28 raw) = true) : decodeAnnouncement raw = unpack (payload28 raw) := by
  rw [decodeAnnouncement, if_pos hsent, if_pos hresidue]

/-- Code 3 is the only delta code without an action (R128). -/
theorem deltaAction_eq_none_iff : ∀ code : BitVec 2, deltaAction code = none ↔ code = 3#2 := by decide

/-- Step 8: a delta code without an action is the failure left to the fields. -/
theorem unpack_payload28_of_deltaAction_eq_none {raw : Word} (h : deltaAction (raw.extractLsb' 15 2) = none) :
    unpack (payload28 raw) = .err .illegalDelta := by
  simp only [unpack, deltaCode_afterOffset, h]

/-- Settles O20: each clause fixes the outcome of one step of the decoder, behind the good outcomes of the steps before. -/
theorem decodeReportsTheEarliestError : Obligations.DecodeReportsTheEarliestError := by
  intro raw
  have hiff := residueGood_payload28_iff raw
  refine ⟨decodeAnnouncement_of_sentinel_ne,
    fun hsent hbad => decodeAnnouncement_of_residue_bad hsent (mt hiff.mp hbad),
    fun hsent hresidue hcode => ?illegal, fun hsent hresidue hcode => ?ok⟩
  case illegal =>
    rw [decodeAnnouncement_of_residue_good hsent (hiff.mpr hresidue)]
    exact unpack_payload28_of_deltaAction_eq_none ((deltaAction_eq_none_iff _).mpr hcode)
  case ok =>
    have hsome : deltaAction (raw.extractLsb' 15 2) ≠ none := (deltaAction_eq_none_iff _).not.mpr hcode
    obtain ⟨action, haction⟩ := Option.ne_none_iff_exists'.mp hsome
    exact ⟨_, (decodeAnnouncement_eq_ok_iff raw _).mpr ⟨hsent, hiff.mpr hresidue, action, haction, rfl⟩⟩

end Sys2Proof.Machine

/-! What a reset edge does to the operation in progress (R200, R202). -/

namespace Sys2Proof.Machine

theorem State.edge_eq_complete_iff (s : State) :
    s.edge = .complete ↔ s.pins.rst = false ∧ s.busy = true ∧ s.wait = 0 := by
  obtain ⟨hrst, he⟩ | ⟨hrst, hbusy, hwait, he⟩ | ⟨-, -, hwait, he⟩ | ⟨-, hbusy, -, he⟩ | ⟨-, hbusy, -, he⟩ :=
    s.edge_cases <;> simp [*]

/-- Only an operation in progress can complete (R153). -/
theorem State.edge_ne_complete_of_not_busy {s : State} (hbusy : s.busy = false) : s.edge ≠ .complete := by
  intro he
  obtain ⟨-, hbusy', -⟩ := s.edge_eq_complete_iff.mp he
  exact Bool.false_ne_true (hbusy.symm.trans hbusy')

/-- Only an operation in progress can go on (R152). -/
theorem State.edge_ne_wait_of_not_busy {s : State} (hbusy : s.busy = false) : s.edge ≠ .wait := by
  intro he
  obtain ⟨-, hbusy', -⟩ := s.edge_eq_wait_iff.mp he
  exact Bool.false_ne_true (hbusy.symm.trans hbusy')

theorem step_of_edge_reset {s : State} (he : s.edge = .reset) : step s = .next s.sampled.resetEdge := by
  simp only [step, he]

/-- Settles O39: reset wins over every other kind of edge, and with `BUSY` 0 after it no operation is left to complete or
to go on. -/
theorem resetAbandonsTheOperation : Obligations.ResetAbandonsTheOperation := by
  intro s hrst
  have hstep : step s = .next s.sampled.resetEdge := step_of_edge_reset (s.edge_eq_reset_iff.mpr hrst)
  have hbusy : s.sampled.resetEdge.busy = false := s.sampled.resetEdge_busy
  have hvalid : s.sampled.resetEdge.rspValid = false := s.sampled.resetEdge_rspValid
  exact ⟨s.sampled.resetEdge, hstep, hbusy, hvalid, State.response_eq_none hvalid,
    State.edge_ne_complete_of_not_busy hbusy, State.edge_ne_wait_of_not_busy hbusy⟩

end Sys2Proof.Machine

/-! The encoder and the decoder against each other (R70, R75, R76), and the rows an announcement word fits
(30_encoding.md section 3). A word of the format ANN32 is read in two halves: its sentinel nibble, which alone chooses among
the rows without the sentinel, and its 28 payload bits. -/

namespace Sys2Proof.Machine

/-! ## The slices of an announcement word (R70) -/

theorem annWord_sentinel (h : BitVec 11) (d : BitVec 2) (m : BitVec 7) (c : BitVec 8) :
    sentinelOf (annWord h d m c) = Config.sentinel :=
  calc (annWord h d m c).extractLsb' 28 4
      = (0b1111#4 ++ h ++ d ++ m).extractLsb' 20 4 := extractLsb'_append_octet _ c 20 4
    _ = (0b1111#4 ++ h ++ d).extractLsb' 13 4 := BitVec.extractLsb'_append_eq_of_le (by decide)
    _ = (0b1111#4 ++ h).extractLsb' 11 4 := BitVec.extractLsb'_append_eq_of_le (by decide)
    _ = Config.sentinel := BitVec.extractLsb'_append_eq_left

@[simp] theorem annWord_horizon (h : BitVec 11) (d : BitVec 2) (m : BitVec 7) (c : BitVec 8) :
    (annWord h d m c).extractLsb' 17 11 = h :=
  calc (annWord h d m c).extractLsb' 17 11
      = (0b1111#4 ++ h ++ d ++ m).extractLsb' 9 11 := extractLsb'_append_octet _ c 9 11
    _ = (0b1111#4 ++ h ++ d).extractLsb' 2 11 := BitVec.extractLsb'_append_eq_of_le (by decide)
    _ = (0b1111#4 ++ h).extractLsb' 0 11 := BitVec.extractLsb'_append_eq_of_le (by decide)
    _ = h := BitVec.extractLsb'_append_eq_right

@[simp] theorem annWord_deltaCode (h : BitVec 11) (d : BitVec 2) (m : BitVec 7) (c : BitVec 8) :
    (annWord h d m c).extractLsb' 15 2 = d :=
  calc (annWord h d m c).extractLsb' 15 2
      = (0b1111#4 ++ h ++ d ++ m).extractLsb' 7 2 := extractLsb'_append_octet _ c 7 2
    _ = (0b1111#4 ++ h ++ d).extractLsb' 0 2 := BitVec.extractLsb'_append_eq_of_le (by decide)
    _ = d := BitVec.extractLsb'_append_eq_right

@[simp] theorem annWord_offset (h : BitVec 11) (d : BitVec 2) (m : BitVec 7) (c : BitVec 8) :
    (annWord h d m c).extractLsb' 8 7 = m :=
  calc (annWord h d m c).extractLsb' 8 7
      = (0b1111#4 ++ h ++ d ++ m).extractLsb' 0 7 := extractLsb'_append_octet _ c 0 7
    _ = m := BitVec.extractLsb'_append_eq_right

@[simp] theorem annWord_checksum (h : BitVec 11) (d : BitVec 2) (m : BitVec 7) (c : BitVec 8) :
    (annWord h d m c).extractLsb' 0 8 = c :=
  BitVec.extractLsb'_append_eq_right

/-- A word is made of its sentinel and its payload. -/
theorem sentinelOf_append_payload (w : Word) : sentinelOf w ++ w.extractLsb' 0 28 = w :=
  (BitVec.extractLsb'_append_extractLsb'_eq_extractLsb' rfl).trans BitVec.extractLsb'_eq_self

/-- A word with the good sentinel is the announcement word of its own four fields (R70: "every bit belongs to exactly one
field"). -/
theorem annWord_of_slices {w : Word} (h : sentinelOf w = Config.sentinel) :
    annWord (w.extractLsb' 17 11) (w.extractLsb' 15 2) (w.extractLsb' 8 7) (w.extractLsb' 0 8) = w :=
  calc annWord (w.extractLsb' 17 11) (w.extractLsb' 15 2) (w.extractLsb' 8 7) (w.extractLsb' 0 8)
      = sentinelOf w ++ w.extractLsb' 17 11 ++ w.extractLsb' 15 2 ++ w.extractLsb' 8 7 ++ w.extractLsb' 0 8 := by
        rw [h, annWord, Config.sentinel]
    _ = w.extractLsb' 17 15 ++ w.extractLsb' 15 2 ++ w.extractLsb' 8 7 ++ w.extractLsb' 0 8 := by
        rw [sentinelOf, BitVec.extractLsb'_append_extractLsb'_eq_extractLsb' (show 28 = 17 + 11 from rfl)]
    _ = w.extractLsb' 15 17 ++ w.extractLsb' 8 7 ++ w.extractLsb' 0 8 := by
        rw [BitVec.extractLsb'_append_extractLsb'_eq_extractLsb' (show 17 = 15 + 2 from rfl)]
    _ = w.extractLsb' 8 24 ++ w.extractLsb' 0 8 := by
        rw [BitVec.extractLsb'_append_extractLsb'_eq_extractLsb' (show 15 = 8 + 7 from rfl)]
    _ = w := (BitVec.extractLsb'_append_extractLsb'_eq_extractLsb' rfl).trans BitVec.extractLsb'_eq_self

/-! ## The row of a word -/

/-- The row of a word with the good sentinel: its delta code chooses (R74). -/
def annRow (code : BitVec 2) (h : BitVec 11) (m : BitVec 7) (c : BitVec 8) : Instr :=
  if code = 0#2 then .annNone h m c
  else if code = 1#2 then .annDec h m c
  else if code = 2#2 then .annInc h m c
  else .annIllegal h m c

/-- The row of a word with another sentinel: the bits of the sentinel choose, from the top (R75). -/
def notAnnRow (s : BitVec 4) (r : BitVec 28) : Instr :=
  if s.extractLsb' 3 1 = 0b0#1 then .notAnn0xxx (s.extractLsb' 0 3) r
  else if s.extractLsb' 2 2 = 0b10#2 then .notAnn10xx (s.extractLsb' 0 2) r
  else if s.extractLsb' 1 3 = 0b110#3 then .notAnn110x (s.extractLsb' 0 1) r
  else .notAnn1110 r

/-- The good sentinel is the one nibble that passes the decoder's four tests. -/
theorem eq_sentinel_iff : ∀ s : BitVec 4,
    s = Config.sentinel ↔
      s.extractLsb' 3 1 ≠ 0b0#1 ∧ s.extractLsb' 2 2 ≠ 0b10#2 ∧ s.extractLsb' 1 3 ≠ 0b110#3 ∧
        s.extractLsb' 0 4 ≠ 0b1110#4 := by decide

theorem sentinelOf_eq_sentinel_iff (w : Word) :
    sentinelOf w = Config.sentinel ↔
      w.extractLsb' 31 1 ≠ 0b0#1 ∧ w.extractLsb' 30 2 ≠ 0b10#2 ∧ w.extractLsb' 29 3 ≠ 0b110#3 ∧
        w.extractLsb' 28 4 ≠ 0b1110#4 := by
  simp (disch := decide) only [eq_sentinel_iff, sentinelOf, extractLsb'_extractLsb', Nat.reduceAdd]

theorem decodeAnn_of_sentinel {w : Word} (h : sentinelOf w = Config.sentinel) :
    decodeAnn w = annRow (w.extractLsb' 15 2) (w.extractLsb' 17 11) (w.extractLsb' 8 7) (w.extractLsb' 0 8) := by
  obtain ⟨h0, h10, h110, h1110⟩ := (sentinelOf_eq_sentinel_iff w).mp h
  rw [decodeAnn, if_neg h0, if_neg h10, if_neg h110, if_neg h1110, annRow]

theorem decodeAnn_of_not_sentinel {w : Word} (h : sentinelOf w ≠ Config.sentinel) :
    decodeAnn w = notAnnRow (sentinelOf w) (w.extractLsb' 0 28) := by
  simp (disch := decide) only [notAnnRow, sentinelOf, extractLsb'_extractLsb', Nat.reduceAdd]
  unfold decodeAnn
  split_ifs with h0 h10 h110 h1110
  · rfl
  · rfl
  · rfl
  · rfl
  all_goals exact absurd ((sentinelOf_eq_sentinel_iff w).mpr ⟨h0, h10, h110, h1110⟩) h

theorem decodeAnn_annWord (h : BitVec 11) (d : BitVec 2) (m : BitVec 7) (c : BitVec 8) :
    decodeAnn (annWord h d m c) = annRow d h m c := by
  rw [decodeAnn_of_sentinel (annWord_sentinel h d m c), annWord_deltaCode, annWord_horizon, annWord_offset,
    annWord_checksum]

theorem sentinelOf_append (s : BitVec 4) (r : BitVec 28) : sentinelOf (s ++ r) = s :=
  BitVec.extractLsb'_append_eq_left

theorem decodeAnn_append {s : BitVec 4} (hs : s ≠ Config.sentinel) (r : BitVec 28) :
    decodeAnn (s ++ r) = notAnnRow s r := by
  have hsent : sentinelOf (s ++ r) = s := sentinelOf_append s r
  have hpayload : (s ++ r).extractLsb' 0 28 = r := BitVec.extractLsb'_append_eq_right
  rw [decodeAnn_of_not_sentinel (hsent.trans_ne hs), hsent, hpayload]

/-! ## The encoding of a row -/

theorem deltaCode_cases : ∀ d : BitVec 2, d = 0#2 ∨ d = 1#2 ∨ d = 2#2 ∨ d = 3#2 := by decide

theorem encode_annRow (d : BitVec 2) (h : BitVec 11) (m : BitVec 7) (c : BitVec 8) :
    encode (annRow d h m c) = .ann (annWord h d m c) := by
  obtain rfl | rfl | rfl | rfl := deltaCode_cases d <;> rfl

/-- Whichever test chooses the row, the bits it fixes and the bits it leaves free are the whole sentinel. -/
theorem encode_notAnnRow {s : BitVec 4} (hs : s ≠ Config.sentinel) (r : BitVec 28) :
    encode (notAnnRow s r) = .ann (s ++ r) := by
  have h0xxx : s.extractLsb' 3 1 ++ s.extractLsb' 0 3 = s :=
    (BitVec.extractLsb'_append_extractLsb'_eq_extractLsb' rfl).trans BitVec.extractLsb'_eq_self
  have h10xx : s.extractLsb' 2 2 ++ s.extractLsb' 0 2 = s :=
    (BitVec.extractLsb'_append_extractLsb'_eq_extractLsb' rfl).trans BitVec.extractLsb'_eq_self
  have h110x : s.extractLsb' 1 3 ++ s.extractLsb' 0 1 = s :=
    (BitVec.extractLsb'_append_extractLsb'_eq_extractLsb' rfl).trans BitVec.extractLsb'_eq_self
  have hann {n : BitVec 4} (h : n = s) : CodeWord.ann (n ++ r) = .ann (s ++ r) := h ▸ rfl
  unfold notAnnRow
  split_ifs with h0 h10 h110
  · exact hann (h0 ▸ h0xxx)
  · exact hann (h10 ▸ h10xx)
  · exact hann (h110 ▸ h110x)
  · have h1110 : s.extractLsb' 0 4 = 0b1110#4 := by
      by_contra h
      exact hs ((eq_sentinel_iff s).mpr ⟨h0, h10, h110, h⟩)
    exact hann (h1110.symm.trans BitVec.extractLsb'_eq_self)

/-! ## The encodings of the rows without the sentinel decode to them (R75) -/

theorem decodeAnn_of_0xxx (t : BitVec 3) (r : BitVec 28) : decodeAnn (0b0#1 ++ t ++ r) = .notAnn0xxx t r := by
  have hne : ∀ t : BitVec 3, 0b0#1 ++ t ≠ Config.sentinel := by decide
  have htop : (0b0#1 ++ t).extractLsb' 3 1 = 0b0#1 := BitVec.extractLsb'_append_eq_left
  have hrest : (0b0#1 ++ t).extractLsb' 0 3 = t := BitVec.extractLsb'_append_eq_right
  exact (decodeAnn_append (hne t) r).trans (by rw [notAnnRow, if_pos htop, hrest])

theorem decodeAnn_of_10xx (t : BitVec 2) (r : BitVec 28) : decodeAnn (0b10#2 ++ t ++ r) = .notAnn10xx t r := by
  have hne : ∀ t : BitVec 2, 0b10#2 ++ t ≠ Config.sentinel ∧ (0b10#2 ++ t).extractLsb' 3 1 ≠ 0b0#1 := by decide
  obtain ⟨hsent, hbit⟩ := hne t
  have htop : (0b10#2 ++ t).extractLsb' 2 2 = 0b10#2 := BitVec.extractLsb'_append_eq_left
  have hrest : (0b10#2 ++ t).extractLsb' 0 2 = t := BitVec.extractLsb'_append_eq_right
  exact (decodeAnn_append hsent r).trans (by rw [notAnnRow, if_neg hbit, if_pos htop, hrest])

theorem decodeAnn_of_110x (t : BitVec 1) (r : BitVec 28) : decodeAnn (0b110#3 ++ t ++ r) = .notAnn110x t r := by
  have hne : ∀ t : BitVec 1, 0b110#3 ++ t ≠ Config.sentinel ∧ (0b110#3 ++ t).extractLsb' 3 1 ≠ 0b0#1 ∧
      (0b110#3 ++ t).extractLsb' 2 2 ≠ 0b10#2 := by decide
  obtain ⟨hsent, hbit, hbits⟩ := hne t
  have htop : (0b110#3 ++ t).extractLsb' 1 3 = 0b110#3 := BitVec.extractLsb'_append_eq_left
  have hrest : (0b110#3 ++ t).extractLsb' 0 1 = t := BitVec.extractLsb'_append_eq_right
  exact (decodeAnn_append hsent r).trans (by rw [notAnnRow, if_neg hbit, if_neg hbits, if_pos htop, hrest])

theorem decodeAnn_of_1110 (r : BitVec 28) : decodeAnn (0b1110#4 ++ r) = .notAnn1110 r :=
  decodeAnn_append (by decide) r

/-! ## Words and instructions correspond (R70, R76) -/

theorem decodeCode_encode (i : Instr) : decodeCode (encode i) = i := by
  cases i with
  | checksum len message => exact decodeReq_word_of_checksum (r := ⟨0#1, len, message⟩) rfl
  | decode len raw => exact decodeReq_word_of_decode (r := ⟨1#1, len, raw⟩) rfl
  | annNone h m c => exact decodeAnn_annWord h 0#2 m c
  | annDec h m c => exact decodeAnn_annWord h 1#2 m c
  | annInc h m c => exact decodeAnn_annWord h 2#2 m c
  | annIllegal h m c => exact decodeAnn_annWord h 3#2 m c
  | notAnn0xxx t r => exact decodeAnn_of_0xxx t r
  | notAnn10xx t r => exact decodeAnn_of_10xx t r
  | notAnn110x t r => exact decodeAnn_of_110x t r
  | notAnn1110 r => exact decodeAnn_of_1110 r

/-- The numbered form of a word is read back as that word (log 13). -/
theorem codeWordOf_bits (c : CodeWord) : codeWordOf c.nbits c.bits = .ok c := by
  cases c with
  | req w => simpa [codeWordOf, CodeWord.nbits, CodeWord.bits] using w.isLt
  | ann w => simpa [codeWordOf, CodeWord.nbits, CodeWord.bits] using w.isLt

/-- Settles O1, row by row; the numbered form adds only that a word's number gives the word back. -/
theorem decodeOfEncodeIsTheInstruction : Obligations.DecodeOfEncodeIsTheInstruction := fun i =>
  ⟨decodeCode_encode i, by simp only [decodeTableWord, decodeNumbered, codeWordOf_bits, decodeCode_encode]⟩

theorem word_requestOf (w : ReqWord) : (requestOf w).word = w :=
  calc w.extractLsb' 38 1 ++ w.extractLsb' 32 6 ++ w.extractLsb' 0 32
      = w.extractLsb' 32 7 ++ w.extractLsb' 0 32 := by
        rw [BitVec.extractLsb'_append_extractLsb'_eq_extractLsb' (show 38 = 32 + 6 from rfl)]
    _ = w := (BitVec.extractLsb'_append_extractLsb'_eq_extractLsb' rfl).trans BitVec.extractLsb'_eq_self

theorem encode_decodeReq_word (r : Request) : encode (decodeReq r.word) = .req r.word := by
  obtain hop | hop := BitVec.eq_zero_or_eq_one r.op
  · rw [decodeReq_word_of_checksum hop, encode, Request.word, hop]
  · rw [decodeReq_word_of_decode hop, encode, Request.word, hop]

theorem encode_decodeAnn (w : Word) : encode (decodeAnn w) = .ann w := by
  by_cases hsent : sentinelOf w = Config.sentinel
  · rw [decodeAnn_of_sentinel hsent, encode_annRow, annWord_of_slices hsent]
  · rw [decodeAnn_of_not_sentinel hsent, encode_notAnnRow hsent, sentinelOf_append_payload]

/-- Settles O2: a request word is the word of its request, and an announcement word is encoded from its own slices. -/
theorem encodeOfDecodeIsTheWord : Obligations.EncodeOfDecodeIsTheWord :=
  ⟨fun w => word_requestOf w ▸ encode_decodeReq_word (requestOf w), encode_decodeAnn⟩

/-! ## The rows of the opcode table (30_encoding.md section 3) -/

/-- Every instruction's word fits the instruction's row. -/
theorem row_fits_encode (i : Instr) : i.row.fits (encode i).bits = true := by
  cases i with
  | checksum len message => exact Laws.EncodedFitsRow.checksum len message
  | decode len raw => exact Laws.EncodedFitsRow.decode len raw
  | annNone h m c => exact Laws.EncodedFitsRow.annNone h m c
  | annDec h m c => exact Laws.EncodedFitsRow.annDec h m c
  | annInc h m c => exact Laws.EncodedFitsRow.annInc h m c
  | annIllegal h m c => exact Laws.EncodedFitsRow.annIllegal h m c
  | notAnn0xxx t r => exact Laws.EncodedFitsRow.notAnn0xxx t r
  | notAnn10xx t r => exact Laws.EncodedFitsRow.notAnn10xx t r
  | notAnn110x t r => exact Laws.EncodedFitsRow.notAnn110x t r
  | notAnn1110 r => exact Laws.EncodedFitsRow.notAnn1110 r

theorem row_fits_decodeAnn (w : Word) : (decodeAnn w).row.fits w.toNat = true := by
  have hfits := row_fits_encode (decodeAnn w)
  rwa [encode_decodeAnn] at hfits

/-- An instruction encoded as an announcement word is of one of the eight ANN32 rows. -/
theorem row_mem_annRows {i : Instr} {w : Word} (h : encode i = .ann w) : i.row ∈ annRows := by
  cases i with
  | checksum len message => cases h
  | decode len raw => cases h
  | _ => simp [annRows, Instr.row]

/-- Two different ANN32 rows disagree in a bit that both of their masks look at. -/
theorem annRows_disagree :
    ∀ r ∈ annRows, ∀ r' ∈ annRows, r.pattern &&& r'.mask = r'.pattern &&& r.mask → r = r' := by decide

/-- So no number fits two of them. -/
theorem annRows_fit_unique {r r' : TableRow} (hr : r ∈ annRows) (hr' : r' ∈ annRows) {n : Nat}
    (h : r.fits n = true) (h' : r'.fits n = true) : r = r' := by
  refine annRows_disagree r hr r' hr' ?_
  simp only [TableRow.fits, beq_iff_eq] at h h'
  rw [← h, ← h', Nat.and_right_comm]

/-- No ANN32 row stands in the table twice. -/
theorem annRows_filter_eq : ∀ r ∈ annRows, annRows.filter (fun r' => r' = r) = [r] := by decide

/-- Settles O3: the row of the decoded instruction fits, since its encoding is the word, and no other row does. -/
theorem everyAnnouncementWordFitsExactlyOneRow : Obligations.EveryAnnouncementWordFitsExactlyOneRow := by
  intro w
  have hmem := row_mem_annRows (encode_decodeAnn w)
  rw [← annRows_filter_eq _ hmem]
  refine List.filter_congr fun r hr => Bool.eq_iff_iff.mpr ?_
  rw [decide_eq_true_iff]
  exact ⟨fun hfits => annRows_fit_unique hr hmem hfits (row_fits_decodeAnn w), fun h => h ▸ row_fits_decodeAnn w⟩

/-- Settles O4, by running the decoder on the nine words. -/
theorem specWordsDecodeToTheirInstructions : Obligations.SpecWordsDecodeToTheirInstructions := by
  unfold Obligations.SpecWordsDecodeToTheirInstructions
  decide

/-- Settles O7, by the five slice lemmas of the decoder's fields. -/
theorem fieldExtractionIsSlicing : Obligations.FieldExtractionIsSlicing := fun raw =>
  ⟨payload28_eq_slice raw, fields20_payload28 raw, offsetMagnitude_fields20 raw, deltaCode_afterOffset raw,
    horizonField_afterOffset raw⟩

end Sys2Proof.Machine

/-! The checksum engine as a linear map over GF(2): the affine law (40_checksum.md section 2) and the closed form as a
polynomial remainder (R107). -/

namespace Sys2Proof.Machine

/-! ## The engine on the accumulator alone (R101, R102, R103) -/

theorem engineRun_acc (n : Nat) (e : EngineRegs) : (engineRun n e).acc = accIterate^[n] e.acc := by
  induction n generalizing e with
  | zero => rfl
  | succ n ih => exact ih (engineIterate e)

theorem checksum_eq_iterate (m : Word) (n : Nat) :
    checksum m n = engineResult (accIterate^[n] (Config.seed ^^^ alignMessage m n)) :=
  congrArg engineResult (engineRun_acc n _)

theorem iterate_accIterate_xor (n : Nat) (a b : Word) :
    accIterate^[n] (a ^^^ b) = accIterate^[n] a ^^^ accIterate^[n] b := by
  induction n generalizing a b with
  | zero => rfl
  | succ n ih => rw [Function.iterate_succ_apply, accIterate_xor, ih, ← Function.iterate_succ_apply,
      ← Function.iterate_succ_apply]

theorem engineResult_xor (a b : Word) : engineResult (a ^^^ b) = engineResult a ^^^ engineResult b :=
  BitVec.extractLsb'_xor

theorem alignMessage_xor (a b : Word) (n : Nat) : alignMessage (a ^^^ b) n = alignMessage a n ^^^ alignMessage b n :=
  BitVec.shiftLeft_xor_distrib a b _

/-! ## The syndrome of a change of the message -/

/-- What flipping the message bits that `d` has set does to a checksum of `n` bits: the engine run over `d` from the
accumulator 0 in place of the seed. -/
def syndrome (d : Word) (n : Nat) : BitVec 8 := engineResult (accIterate^[n] (alignMessage d n))

theorem checksum_xor (a d : Word) (n : Nat) : checksum (a ^^^ d) n = checksum a n ^^^ syndrome d n := by
  rw [checksum_eq_iterate, checksum_eq_iterate, syndrome, alignMessage_xor, ← BitVec.xor_assoc, iterate_accIterate_xor,
    engineResult_xor]

theorem syndrome_xor (d d' : Word) (n : Nat) : syndrome (d ^^^ d') n = syndrome d n ^^^ syndrome d' n := by
  rw [syndrome, alignMessage_xor, iterate_accIterate_xor, engineResult_xor, syndrome, syndrome]

/-- The syndrome in the terms of the spec: what a message changes in the checksum of the message 0. -/
theorem syndrome_eq_checksum_xor (d : Word) (n : Nat) : syndrome d n = checksum d n ^^^ checksum 0 n := by
  have h : checksum d n = checksum 0 n ^^^ syndrome d n := by
    rw [← checksum_xor]
    exact congrArg (checksum · n) BitVec.zero_xor.symm
  rw [h, BitVec.xor_comm (checksum 0 n), BitVec.xor_assoc, BitVec.xor_self, BitVec.xor_zero]

/-- Settles O11: a change of the message changes the checksum by its syndrome; the 28 printed ones are computed. -/
theorem checksumIsAffine : Obligations.ChecksumIsAffine := by
  refine ⟨fun a b n _ _ => ?affine, fun a n i _ _ _ => ?flip, by decide +kernel⟩
  case affine => rw [checksum_xor, syndrome_eq_checksum_xor, BitVec.xor_assoc]
  case flip => rw [checksum_xor, syndrome_eq_checksum_xor]

/-! ## The bits of one iteration (R102) -/

/-- The polynomial stands in bits 31..23 of `POLY32` (R4). -/
theorem getLsbD_poly32 {j : Nat} (hj : j < 32) :
    Config.poly32.getLsbD j = (decide (23 ≤ j) && Config.poly9.getLsbD (j - 23)) := by
  have hle : decide (23 ≤ j) = !decide (j < 23) := by rw [← decide_not, decide_eq_decide, Nat.not_lt]
  simp [Config.poly32, Config.polyShift, hj, hle]

theorem getLsbD_accIterate_zero (acc : Word) : (accIterate acc).getLsbD 0 = false := by
  simp [accIterate]

theorem getLsbD_accIterate_succ (acc : Word) (j : Nat) :
    (accIterate acc).getLsbD (j + 1) =
      (decide (j + 1 < 32) && (acc.getLsbD j ^^ (acc.getLsbD 31 && Config.poly32.getLsbD j))) := by
  rw [accIterate, BitVec.getLsbD_shiftLeft]
  cases htop : acc.getLsbD 31 <;> simp

/-! ## Long division (R107) -/

/-- Clear bit `k + 8` of a polynomial by the generator, one step of `pmodFrom`. -/
def reduceBit (k : Nat) (a : BitVec 40) : BitVec 40 :=
  if a.getLsbD (k + 8) then a ^^^ (Config.poly9.setWidth 40 <<< k) else a

theorem pmodFrom_succ (k : Nat) (a : BitVec 40) : pmodFrom (k + 1) a = pmodFrom k (reduceBit k a) := rfl

theorem getLsbD_reduceBit {k i : Nat} (hi : i < 40) (a : BitVec 40) :
    (reduceBit k a).getLsbD i =
      (a.getLsbD i ^^ (a.getLsbD (k + 8) && (decide (k ≤ i) && Config.poly9.getLsbD (i - k)))) := by
  have hle : decide (k ≤ i) = !decide (i < k) := by rw [← decide_not, decide_eq_decide, Nat.not_lt]
  unfold reduceBit
  cases a.getLsbD (k + 8) <;> simp [hi, hle]

/-- Division has nothing to do at a bit above the degree. -/
theorem pmodFrom_of_degree_lt {n : Nat} (a : BitVec 40) (h : ∀ i, n + 8 ≤ i → a.getLsbD i = false) (d : Nat) :
    pmodFrom (n + d) a = pmodFrom n a := by
  induction d with
  | zero => rfl
  | succ d ih =>
    have hbit : a.getLsbD (n + d + 8) = false := h _ (by omega)
    rw [← Nat.add_assoc, pmodFrom_succ, reduceBit, hbit, if_neg Bool.false_ne_true, ih]

/-! ## The engine divides -/

/-- The polynomial `a`, with `k` bits still to clear, stands in the accumulator with its bit `k + 7` at bit 31; what lies
below the accumulator's bit 0 is 0. -/
def StandsAt (k : Nat) (acc : Word) (a : BitVec 40) : Prop :=
  ∀ i, i < 40 → a.getLsbD i = (decide (k ≤ i + 24) && acc.getLsbD (i + 24 - k))

/-- One iteration of the engine is one step of the division: both test the same bit, and the accumulator moves up by one
where the division moves down. -/
theorem StandsAt.step {k : Nat} (hk : k < 32) {acc : Word} {a : BitVec 40} (h : StandsAt (k + 1) acc a) :
    StandsAt k (accIterate acc) (reduceBit k a) := by
  intro i hi
  have htop : a.getLsbD (k + 8) = acc.getLsbD 31 := by
    rw [h _ (by omega), decide_eq_true (by omega), Bool.true_and]
    congr 1
    omega
  rw [getLsbD_reduceBit hi, htop]
  rw [h i hi]
  obtain hlow | hbottom | habove := Nat.lt_trichotomy (i + 24) k
  · simp [show ¬ k + 1 ≤ i + 24 by omega, show ¬ k ≤ i + 24 by omega, show ¬ k ≤ i by omega]
  · rw [show i + 24 - k = 0 by omega, getLsbD_accIterate_zero]
    simp [show ¬ k + 1 ≤ i + 24 by omega, show ¬ k ≤ i by omega]
  · obtain ⟨j, hj⟩ := Nat.exists_eq_add_of_lt habove
    have hacc : i + 24 - (k + 1) = j := by omega
    have hacc' : i + 24 - k = j + 1 := by omega
    rw [hacc, hacc', getLsbD_accIterate_succ, decide_eq_true (show k + 1 ≤ i + 24 by omega),
      decide_eq_true (show k ≤ i + 24 by omega), Bool.true_and, Bool.true_and]
    obtain hin | rfl | hout := Nat.lt_trichotomy j 31
    · have hpoly : i - k = j - 23 := by omega
      have hdec : decide (k ≤ i) = decide (23 ≤ j) := by rw [decide_eq_decide]; omega
      rw [getLsbD_poly32 (by omega), hpoly, hdec, decide_eq_true (show j + 1 < 32 by omega), Bool.true_and]
    · have hgen : Config.poly9.getLsbD (i - k) = true := by rw [show i - k = 8 by omega]; decide
      simp [hgen, show k ≤ i by omega]
    · have hzero : acc.getLsbD j = false := BitVec.getLsbD_of_ge _ _ (by omega)
      have hgen : Config.poly9.getLsbD (i - k) = false := BitVec.getLsbD_of_ge _ _ (by omega)
      simp [hzero, hgen, show ¬ j + 1 < 32 by omega]

/-- With no bit left to clear, the remainder is the accumulator's top byte (R103). -/
theorem StandsAt.result {acc : Word} {a : BitVec 40} (h : StandsAt 0 acc a) : engineResult acc = a.setWidth 8 := by
  apply BitVec.eq_of_getLsbD_eq
  intro i hi
  rw [engineResult, BitVec.getLsbD_extractLsb', BitVec.getLsbD_setWidth, h i (by omega),
    decide_eq_true (Nat.zero_le _), Bool.true_and, Nat.add_comm, Nat.sub_zero]

theorem StandsAt.engineResult_iterate {n : Nat} (hn : n ≤ 32) {acc : Word} {a : BitVec 40} (h : StandsAt n acc a) :
    engineResult (accIterate^[n] acc) = (pmodFrom n a).setWidth 8 := by
  induction n generalizing acc a with
  | zero => exact h.result
  | succ n ih => exact ih (by omega) (h.step (by omega))

/-- The polynomial in the accumulator has no bit above those that `n` iterations clear. -/
theorem StandsAt.degree_lt {n : Nat} {acc : Word} {a : BitVec 40} (h : StandsAt n acc a) {i : Nat} (hi : n + 8 ≤ i) :
    a.getLsbD i = false := by
  by_cases hlt : i < 40
  · rw [h i hlt, BitVec.getLsbD_of_ge _ _ (by omega), Bool.and_false]
  · exact BitVec.getLsbD_of_ge _ _ (by omega)

theorem StandsAt.pmod_eq {n : Nat} (hn : n ≤ 32) {acc : Word} {a : BitVec 40} (h : StandsAt n acc a) :
    engineResult (accIterate^[n] acc) = pmod a := by
  have hdeg := pmodFrom_of_degree_lt a (fun _ => h.degree_lt) (32 - n)
  rw [Nat.add_sub_cancel' hn] at hdeg
  rw [h.engineResult_iterate hn, pmod, hdeg]

theorem standsAt_ushiftRight {n : Nat} (hn : n ≤ 24) (acc : Word) :
    StandsAt n acc (acc.setWidth 40 >>> (24 - n)) := by
  intro i hi
  have hidx : 24 - n + i = i + 24 - n := by omega
  rw [BitVec.getLsbD_ushiftRight, hidx, BitVec.getLsbD_setWidth, decide_eq_true (show n ≤ i + 24 by omega)]
  by_cases hlt : i + 24 - n < 40
  · rw [decide_eq_true hlt]
  · rw [BitVec.getLsbD_of_ge _ _ (by omega), Bool.and_false, Bool.and_false]

theorem standsAt_shiftLeft {n : Nat} (hn : 24 ≤ n) (acc : Word) :
    StandsAt n acc (acc.setWidth 40 <<< (n - 24)) := by
  intro i hi
  have hidx : i - (n - 24) = i + 24 - n := by omega
  have hlow : (!decide (i < n - 24)) = decide (n ≤ i + 24) := by
    rw [← decide_not, decide_eq_decide]
    omega
  rw [BitVec.getLsbD_shiftLeft, decide_eq_true hi, hidx, hlow, BitVec.getLsbD_setWidth,
    decide_eq_true (show i + 24 - n < 40 by omega), Bool.true_and, Bool.true_and]

/-- Settles O12: the initial accumulator holds the shifted polynomial, and the engine divides it. -/
theorem checksumIsPolynomialRemainder : Obligations.ChecksumIsPolynomialRemainder := by
  refine fun m n _ hn => ⟨fun hle => ?_, fun hge => ?_⟩
  · exact (checksum_eq_iterate m n).trans ((standsAt_ushiftRight hle _).pmod_eq hn)
  · exact (checksum_eq_iterate m n).trans ((standsAt_shiftLeft hge _).pmod_eq hn)

end Sys2Proof.Machine

/-! The residue of an embedded checksum and the errors it detects (40_checksum.md section 2). Iterations move a change of the
message up to the accumulator's top byte without any reduction; from there on each of them is a bijection of that byte. -/

namespace Sys2Proof.Machine

/-! ## The two parts of the accumulator -/

theorem accIterate_eq_shiftLeft {acc : Word} (h : acc.getLsbD 31 = false) : accIterate acc = acc <<< 1 := by
  rw [accIterate, if_neg (Bool.eq_false_iff.mp h)]

/-- Iterations that never see the top bit set only shift. -/
theorem iterate_accIterate_eq_shiftLeft {n : Nat} {acc : Word} (hn : n ≤ 32)
    (h : ∀ i, 32 - n ≤ i → acc.getLsbD i = false) : accIterate^[n] acc = acc <<< n := by
  induction n with
  | zero => exact (BitVec.shiftLeft_zero acc).symm
  | succ n ih =>
    have htop : (acc <<< n).getLsbD 31 = false := by
      rw [BitVec.getLsbD_shiftLeft, h _ (by omega), Bool.and_false]
    rw [Function.iterate_succ_apply', ih (by omega) fun i hi => h i (by omega), accIterate_eq_shiftLeft htop,
      BitVec.shiftLeft_add]

/-- The polynomial does not reach the bits below the top byte. -/
theorem setWidth_accIterate (acc : Word) : (accIterate acc).setWidth 24 = acc.setWidth 24 <<< 1 := by
  have hpoly : (Config.poly32 <<< 1).setWidth 24 = 0#24 := by decide
  unfold accIterate
  split
  · rw [BitVec.shiftLeft_xor_distrib, BitVec.setWidth_xor, hpoly, BitVec.xor_zero,
      BitVec.setWidth_shiftLeft_of_le (by decide)]
  · exact BitVec.setWidth_shiftLeft_of_le (by decide)

theorem setWidth_iterate_accIterate (n : Nat) (acc : Word) :
    (accIterate^[n] acc).setWidth 24 = acc.setWidth 24 <<< n := by
  induction n with
  | zero => exact (BitVec.shiftLeft_zero _).symm
  | succ n ih => rw [Function.iterate_succ_apply', setWidth_accIterate, ih, BitVec.shiftLeft_add]

theorem engineResult_append (c : BitVec 8) (low : BitVec 24) : engineResult (c ++ low) = c :=
  BitVec.extractLsb'_append_eq_left

theorem engineResult_append_setWidth (acc : Word) : engineResult acc ++ acc.setWidth 24 = acc := by
  rw [engineResult, BitVec.setWidth_eq_extractLsb' (by decide)]
  exact (BitVec.extractLsb'_append_extractLsb'_eq_extractLsb' rfl).trans BitVec.extractLsb'_eq_self

/-- The accumulator after `n` iterations: its top byte is what the engine computes, the rest is the start, shifted. -/
theorem iterate_accIterate_eq_append (n : Nat) (acc : Word) :
    accIterate^[n] acc = engineResult (accIterate^[n] acc) ++ (acc.setWidth 24 <<< n) := by
  rw [← setWidth_iterate_accIterate, engineResult_append_setWidth]

/-! ## The top byte under iteration -/

/-- The generator has the term 1, so one iteration loses no bit of the top byte. -/
theorem engineResult_accIterate_ne_zero :
    ∀ c : BitVec 8, c ≠ 0#8 → engineResult (accIterate (c ++ 0#24)) ≠ 0#8 := by decide +kernel

theorem engineResult_iterate_ne_zero (n : Nat) {c : BitVec 8} (hc : c ≠ 0#8) :
    engineResult (accIterate^[n] (c ++ 0#24)) ≠ 0#8 := by
  induction n generalizing c with
  | zero => rwa [Function.iterate_zero_apply, engineResult_append]
  | succ n ih =>
    have hnext : accIterate (c ++ 0#24) = engineResult (accIterate (c ++ 0#24)) ++ 0#24 := by
      have h := iterate_accIterate_eq_append 1 (c ++ 0#24)
      rwa [Function.iterate_one, BitVec.setWidth_append_eq_right, BitVec.zero_shiftLeft] at h
    rw [Function.iterate_succ_apply, hnext]
    exact ih (engineResult_accIterate_ne_zero c hc)

theorem engineResult_iterate_eq_zero_iff (n : Nat) (c : BitVec 8) :
    engineResult (accIterate^[n] (c ++ 0#24)) = 0#8 ↔ c = 0#8 := by
  refine ⟨fun h => by_contra fun hc => engineResult_iterate_ne_zero n hc h, ?_⟩
  rintro rfl
  have hfixed : accIterate (0#8 ++ 0#24) = 0#8 ++ 0#24 := by decide
  rw [Function.iterate_fixed hfixed, engineResult_append]

theorem xor_eq_left_iff {w : Nat} (x y : BitVec w) : x ^^^ y = x ↔ y = 0#w := by
  have h : x ^^^ y = x ^^^ 0#w ↔ y = 0#w := BitVec.xor_right_inj x
  rwa [BitVec.xor_zero] at h

/-- A byte `k` places above the bottom of a 28-bit message comes to the top of the accumulator after `20 - k` of the 28
iterations. -/
theorem iterate_accIterate_byte {k : Nat} (hk : k ≤ 20) (b : BitVec 8) :
    accIterate^[20 - k] (b.setWidth 32 <<< (k + 4)) = b ++ 0#24 := by
  have hclear (i : Nat) (hi : 32 - (20 - k) ≤ i) : (b.setWidth 32 <<< (k + 4)).getLsbD i = false := by
    rw [BitVec.getLsbD_shiftLeft, BitVec.getLsbD_setWidth, BitVec.getLsbD_of_ge b _ (by omega), Bool.and_false,
      Bool.and_false]
  have htop : b.setWidth 32 <<< 24 = b ++ 0#24 := by
    rw [BitVec.shiftLeft_eq_concat_of_lt (by decide), ← BitVec.setWidth_eq_extractLsb' (by decide),
      BitVec.setWidth_setWidth_of_le _ (by decide), BitVec.setWidth_eq]
    rfl
  rw [iterate_accIterate_eq_shiftLeft (by omega) hclear, ← BitVec.shiftLeft_add, show k + 4 + (20 - k) = 24 by omega,
    htop]

/-- The syndrome of a byte anywhere in a 28-bit message: the iterations that are left when it is at the top. -/
theorem syndrome_byte {k : Nat} (hk : k ≤ 20) (b : BitVec 8) :
    syndrome (b.setWidth 32 <<< k) 28 = engineResult (accIterate^[8 + k] (b ++ 0#24)) := by
  rw [← iterate_accIterate_byte hk, ← Function.iterate_add_apply, show 8 + k + (20 - k) = 28 by omega,
    BitVec.shiftLeft_add]
  rfl

/-! ## The residue (R123) -/

/-- The message of 20 field bits with room for a checksum is aligned for 28 bits as the field bits alone are for 20. -/
theorem alignMessage_shiftLeft_eight (m : Word) : alignMessage (m <<< 8) 28 = alignMessage m 20 :=
  (BitVec.shiftLeft_add m 8 4).symm

/-- After 20 iterations over 20 field bits the accumulator holds their checksum and, below it, what is left of the seed. -/
theorem iterate_accIterate_fields (f : Word) :
    accIterate^[20] (Config.seed ^^^ alignMessage f 20) = (checksum f 20 ++ 0#24) ^^^ 0x00800000#32 := by
  have hlow : (Config.seed ^^^ alignMessage f 20).setWidth 24 <<< 20 = 0x800000#24 := by
    have hseed : Config.seed.setWidth 24 <<< 20 = 0x800000#24 := by decide
    have hfields : (alignMessage f 20).setWidth 24 <<< 20 = 0#24 := by
      rw [alignMessage, BitVec.setWidth_shiftLeft_of_le (by decide), ← BitVec.shiftLeft_add]
      exact BitVec.shiftLeft_eq_zero (by decide)
    rw [BitVec.setWidth_xor, BitVec.shiftLeft_xor_distrib, hseed, hfields, BitVec.xor_zero]
  calc accIterate^[20] (Config.seed ^^^ alignMessage f 20)
      = checksum f 20 ++ 0x800000#24 := by rw [iterate_accIterate_eq_append, hlow, checksum_eq_iterate]
    _ = (checksum f 20 ++ 0#24) ^^^ (0#8 ++ 0x800000#24) := by rw [BitVec.xor_append, BitVec.xor_zero, BitVec.zero_xor]
    _ = (checksum f 20 ++ 0#24) ^^^ 0x00800000#32 := by congr 1

/-- The checksum of 20 field bits followed by a byte: the residue, changed by how far the byte is from the checksum of the
field bits. -/
theorem checksum_fields_append (f : BitVec 20) (c : BitVec 8) :
    checksum ((f ++ c).setWidth 32) 28 =
      0x80#8 ^^^ engineResult (accIterate^[8] ((checksum (f.setWidth 32) 20 ^^^ c) ++ 0#24)) := by
  have hsplit : (f ++ c).setWidth 32 = f.setWidth 32 <<< 8 ^^^ c.setWidth 32 <<< 0 :=
    calc (f ++ c).setWidth 32
        = ((f ++ 0#8) ^^^ (0#20 ++ c)).setWidth 32 := by rw [BitVec.xor_append, BitVec.xor_zero, BitVec.zero_xor]
      _ = (f ++ 0#8).setWidth 32 ^^^ (0#20 ++ c).setWidth 32 := BitVec.setWidth_xor
      _ = f.setWidth 32 <<< 8 ^^^ c.setWidth 32 <<< 0 := by
        rw [BitVec.setWidth_append_eq_shiftLeft_setWidth_or, BitVec.setWidth_append_eq_shiftLeft_setWidth_or,
          BitVec.setWidth_zero, BitVec.setWidth_zero, BitVec.or_zero, BitVec.zero_shiftLeft, BitVec.zero_or,
          BitVec.shiftLeft_zero]
  have hresidue : engineResult (accIterate^[8] 0x00800000#32) = 0x80#8 := by decide +kernel
  have hfields : checksum (f.setWidth 32 <<< 8) 28 =
      engineResult (accIterate^[8] ((checksum (f.setWidth 32) 20 ++ 0#24) ^^^ 0x00800000#32)) := by
    rw [checksum_eq_iterate, alignMessage_shiftLeft_eight, ← iterate_accIterate_fields, ← Function.iterate_add_apply]
  have hbytes : (checksum (f.setWidth 32) 20 ^^^ c) ++ 0#24 = (checksum (f.setWidth 32) 20 ++ 0#24) ^^^ (c ++ 0#24) := by
    rw [BitVec.xor_append, BitVec.xor_zero]
  rw [hsplit, checksum_xor, syndrome_byte (by decide), hfields, hbytes, iterate_accIterate_xor, iterate_accIterate_xor,
    engineResult_xor, engineResult_xor, hresidue, BitVec.xor_comm _ 0x80#8, BitVec.xor_assoc]

/-- Settles O13: the byte leaves the residue alone exactly when its distance from the checksum is 0. -/
theorem residueHoldsForExactlyTheEmbeddedChecksum : Obligations.ResidueHoldsForExactlyTheEmbeddedChecksum := by
  intro f c
  rw [checksum_fields_append, xor_eq_left_iff, engineResult_iterate_eq_zero_iff, BitVec.xor_eq_zero_iff, eq_comm]

/-! ## Changes of a payload (R110) -/

/-- The syndrome of a change of the 28 payload bits. -/
def payloadSyndrome (d : BitVec 28) : BitVec 8 := syndrome (d.setWidth 32) 28

theorem payloadSyndrome_xor (d d' : BitVec 28) :
    payloadSyndrome (d ^^^ d') = payloadSyndrome d ^^^ payloadSyndrome d' := by
  rw [payloadSyndrome, BitVec.setWidth_xor, syndrome_xor, payloadSyndrome, payloadSyndrome]

theorem residueGood_iff (p : BitVec 28) : residueGood p = true ↔ checksum (p.setWidth 32) 28 = 0x80#8 := by
  rw [residueGood, beq_iff_eq, Config.payloadW, Config.residue]

/-- A change of a payload with a good residue goes undetected exactly when its syndrome is 0. -/
theorem residueGood_xor_iff {p : BitVec 28} (hp : residueGood p = true) (d : BitVec 28) :
    residueGood (p ^^^ d) = true ↔ payloadSyndrome d = 0#8 := by
  rw [residueGood_iff, BitVec.setWidth_xor, checksum_xor, (residueGood_iff p).mp hp, xor_eq_left_iff, payloadSyndrome]

theorem residueGood_xor_of_ne_zero {p d : BitVec 28} (hp : residueGood p = true) (hd : payloadSyndrome d ≠ 0#8) :
    residueGood (p ^^^ d) = false :=
  Bool.eq_false_iff.mpr ((residueGood_xor_iff hp d).not.mpr hd)

/-! ## Three bits: parity -/

/-- Whether an odd number of the bits at the places `l` are set. -/
def parityAt (l : List Nat) (c : BitVec 8) : Bool := l.foldr (fun i b => c.getLsbD i ^^ b) false

theorem parityAt_xor (l : List Nat) (c d : BitVec 8) : parityAt l (c ^^^ d) = (parityAt l c ^^ parityAt l d) := by
  induction l with
  | nil => rfl
  | cons i l ih =>
    simp only [parityAt, List.foldr_cons, BitVec.getLsbD_xor] at ih ⊢
    rw [ih, Bool.xor_assoc, Bool.xor_assoc, Bool.xor_left_comm (d.getLsbD i)]

/-- Whether a byte has an odd number of bits set. -/
def parity (c : BitVec 8) : Bool := parityAt (List.range 8) c

theorem parity_xor (c d : BitVec 8) : parity (c ^^^ d) = (parity c ^^ parity d) := parityAt_xor _ c d

theorem ne_zero_of_parity {c : BitVec 8} (h : parity c = true) : c ≠ 0#8 := by
  rintro rfl
  exact absurd h (by decide)

/-- `x + 1` divides the generator, so the remainder of a single bit is of odd weight. -/
theorem parity_payloadSyndrome_bit : ∀ i < 28, parity (payloadSyndrome (1#28 <<< i)) = true := by decide +kernel

/-- Settles O15: three syndromes of odd weight make one of odd weight. -/
theorem threeBitErrorsAreDetected : Obligations.ThreeBitErrorsAreDetected := by
  intro p i j k hp hij hjk hk
  rw [BitVec.xor_assoc, BitVec.xor_assoc]
  refine residueGood_xor_of_ne_zero hp (ne_zero_of_parity ?_)
  rw [payloadSyndrome_xor, payloadSyndrome_xor, parity_xor, parity_xor, parity_payloadSyndrome_bit i (by omega),
    parity_payloadSyndrome_bit j (by omega), parity_payloadSyndrome_bit k hk]
  rfl

/-! ## Bursts of eight bits -/

/-- A burst in the 28 payload bits is not cut off at the top. -/
theorem setWidth_burst {k : Nat} (hk : k ≤ 20) (b : BitVec 8) :
    (b.setWidth 28 <<< k).setWidth 32 = b.setWidth 32 <<< k := by
  have hlt : b.toNat * 2 ^ k < 2 ^ 28 :=
    calc b.toNat * 2 ^ k < 2 ^ 8 * 2 ^ k := Nat.mul_lt_mul_of_pos_right b.isLt (Nat.two_pow_pos k)
      _ ≤ 2 ^ 8 * 2 ^ 20 := Nat.mul_le_mul_left _ (Nat.pow_le_pow_right (by decide) hk)
  apply BitVec.eq_of_toNat_eq
  rw [BitVec.toNat_setWidth_of_le (by decide), BitVec.toNat_shiftLeft, BitVec.toNat_shiftLeft,
    BitVec.toNat_setWidth_of_le (by decide), BitVec.toNat_setWidth_of_le (by decide), Nat.shiftLeft_eq,
    Nat.mod_eq_of_lt hlt, Nat.mod_eq_of_lt (hlt.trans (by decide))]

/-- Settles O16: a burst is a byte at some place, and iterating keeps a byte from becoming 0. -/
theorem burstsOfEightBitsAreDetected : Obligations.BurstsOfEightBitsAreDetected := by
  intro p b k hp hb hk
  refine residueGood_xor_of_ne_zero hp ?_
  rw [payloadSyndrome, setWidth_burst hk, syndrome_byte hk]
  exact engineResult_iterate_ne_zero _ hb

/-! ## One and two bits of a word -/

/-- No two of the 28 single-bit syndromes are equal. -/
theorem payloadSyndrome_bits_nodup : ((List.range 28).map fun i => payloadSyndrome (1#28 <<< i)).Nodup := by
  decide +kernel

theorem payloadSyndrome_two_bits {i j : Nat} (hij : i < j) (hj : j < 28) :
    payloadSyndrome (1#28 <<< i ^^^ 1#28 <<< j) ≠ 0#8 := by
  rw [payloadSyndrome_xor, ne_eq, BitVec.xor_eq_zero_iff]
  intro heq
  have hmem (k : Nat) (hk : k < 28) : k ∈ List.range 28 := List.mem_range.mpr hk
  exact hij.ne (List.inj_on_of_nodup_map payloadSyndrome_bits_nodup (hmem i (hij.trans hj)) (hmem j hj) heq)

theorem sentinelOf_xor (a b : Word) : sentinelOf (a ^^^ b) = sentinelOf a ^^^ sentinelOf b :=
  BitVec.extractLsb'_xor

theorem payload28_xor (a b : Word) : payload28 (a ^^^ b) = payload28 a ^^^ payload28 b := by
  simp only [payload28_eq_slice, BitVec.extractLsb'_xor]

/-- A payload bit of a word is no sentinel bit. -/
theorem slices_of_payload_bit :
    ∀ i < 28, sentinelOf (1#32 <<< i) = 0#4 ∧ payload28 (1#32 <<< i) = 1#28 <<< i := by decide

theorem sentinelOf_sentinel_bit : ∀ i < 32, 28 ≤ i → sentinelOf (1#32 <<< i) ≠ 0#4 := by decide

/-- A change with a syndrome behind an unchanged sentinel is an `IntegrityFailure`. -/
theorem decodeAnnouncement_xor_of_payload {raw d : Word} (hsent : sentinelOf raw = Config.sentinel)
    (hresidue : residueGood (payload28 raw) = true) (hd : sentinelOf d = 0#4)
    (hsyn : payloadSyndrome (payload28 d) ≠ 0#8) : decodeAnnouncement (raw ^^^ d) = .err .integrityFailure := by
  refine decodeAnnouncement_of_residue_bad ?_ (Bool.eq_false_iff.mp ?_)
  · rw [sentinelOf_xor, hsent, hd, BitVec.xor_zero]
  · rw [payload28_xor]
    exact residueGood_xor_of_ne_zero hresidue hsyn

/-- Settles O14: one bit has a syndrome of odd weight, two bits have different syndromes, and a sentinel bit breaks the
sentinel. -/
theorem oneAndTwoBitErrorsAreDetected : Obligations.OneAndTwoBitErrorsAreDetected := by
  intro raw hsent hresidue
  refine ⟨fun i hi => ?one, fun i j hij hj => ?two, fun i hlo hhi => ?sentinel⟩
  case one =>
    obtain ⟨hs, hp⟩ := slices_of_payload_bit i hi
    exact decodeAnnouncement_xor_of_payload hsent hresidue hs
      (hp ▸ ne_zero_of_parity (parity_payloadSyndrome_bit i hi))
  case two =>
    obtain ⟨hsi, hpi⟩ := slices_of_payload_bit i (hij.trans hj)
    obtain ⟨hsj, hpj⟩ := slices_of_payload_bit j hj
    rw [BitVec.xor_assoc]
    refine decodeAnnouncement_xor_of_payload hsent hresidue ?_ ?_
    · rw [sentinelOf_xor, hsi, hsj, BitVec.xor_zero]
    · rw [payload28_xor, hpi, hpj]
      exact payloadSyndrome_two_bits hij hj
  case sentinel =>
    refine decodeAnnouncement_of_sentinel_ne fun h => sentinelOf_sentinel_bit i hhi hlo ?_
    rwa [sentinelOf_xor, hsent, Config.sentinel, xor_eq_left_iff] at h

end Sys2Proof.Machine

/-! Announcement words as their four fields: what they decode to (R124 to R131), which of them the producer function makes
(R135), and the range of the decoded values (R130). -/

namespace Sys2Proof.Machine

/-! ## The payload of an announcement word (R71) -/

/-- A payload is made of its four fields. -/
theorem payloadOf_slices (w : Word) :
    payloadOf (w.extractLsb' 17 11) (w.extractLsb' 15 2) (w.extractLsb' 8 7) (w.extractLsb' 0 8) = payload28 w := by
  rw [payload28_eq_slice]
  calc w.extractLsb' 17 11 ++ w.extractLsb' 15 2 ++ w.extractLsb' 8 7 ++ w.extractLsb' 0 8
      = w.extractLsb' 15 13 ++ w.extractLsb' 8 7 ++ w.extractLsb' 0 8 := by
        rw [BitVec.extractLsb'_append_extractLsb'_eq_extractLsb' (show 17 = 15 + 2 from rfl)]
    _ = w.extractLsb' 8 20 ++ w.extractLsb' 0 8 := by
        rw [BitVec.extractLsb'_append_extractLsb'_eq_extractLsb' (show 15 = 8 + 7 from rfl)]
    _ = w.extractLsb' 0 28 := BitVec.extractLsb'_append_extractLsb'_eq_extractLsb' rfl

theorem payload28_annWord (h : BitVec 11) (d : BitVec 2) (m : BitVec 7) (c : BitVec 8) :
    payload28 (annWord h d m c) = payloadOf h d m c := by
  rw [← payloadOf_slices, annWord_horizon, annWord_deltaCode, annWord_offset, annWord_checksum]

/-- The residue check asks for the checksum of the other three fields (R123, R135). -/
theorem residueGood_payloadOf_iff (h : BitVec 11) (d : BitVec 2) (m : BitVec 7) (c : BitVec 8) :
    residueGood (payloadOf h d m c) = true ↔ c = checksum ((h ++ d ++ m).setWidth 32) 20 :=
  (residueGood_iff _).trans (residueHoldsForExactlyTheEmbeddedChecksum (h ++ d ++ m) c)

/-! ## The outcome of the fields (R124 to R130) -/

/-- The outcome of a word that has passed the sentinel and the residue check, in terms of its fields. -/
def fieldsOutcome (d : BitVec 2) (h : BitVec 11) (m : BitVec 7) : DecodeResult :=
  (deltaAction d).elim (.err .illegalDelta) fun action => .ok (interpret h m action)

theorem unpack_payload28 (w : Word) :
    unpack (payload28 w) = fieldsOutcome (w.extractLsb' 15 2) (w.extractLsb' 17 11) (w.extractLsb' 8 7) := by
  simp only [unpack, fieldsOutcome, offsetMagnitude_fields20, deltaCode_afterOffset, horizonField_afterOffset]
  cases deltaAction (w.extractLsb' 15 2) <;> rfl

theorem decodeAnnouncement_of_sentinel {w : Word} (hsent : sentinelOf w = Config.sentinel) :
    decodeAnnouncement w =
      if residueGood (payload28 w) then
        fieldsOutcome (w.extractLsb' 15 2) (w.extractLsb' 17 11) (w.extractLsb' 8 7)
      else .err .integrityFailure := by
  rw [decodeAnnouncement, if_pos hsent, unpack_payload28]

/-- Past the two checks of the word as a whole, the fields cannot bring back their errors. -/
theorem fieldsOutcome_ne (d : BitVec 2) (h : BitVec 11) (m : BitVec 7) :
    fieldsOutcome d h m ≠ .err .badFormat ∧ fieldsOutcome d h m ≠ .err .integrityFailure := by
  unfold fieldsOutcome
  cases deltaAction d <;> simp

/-- The errors of the word as a whole are the sentinel's and the residue's. -/
theorem decodeAnnouncement_passes_iff (w : Word) :
    (decodeAnnouncement w ≠ .err .badFormat ∧ decodeAnnouncement w ≠ .err .integrityFailure) ↔
      sentinelOf w = Config.sentinel ∧ residueGood (payload28 w) = true := by
  by_cases hsent : sentinelOf w = Config.sentinel
  · rw [decodeAnnouncement_of_sentinel hsent]
    by_cases hresidue : residueGood (payload28 w) = true
    · simp only [hsent, hresidue, if_true, true_and, iff_true]
      exact fieldsOutcome_ne _ _ _
    · simp [hresidue]
  · simp [decodeAnnouncement_of_sentinel_ne hsent, hsent]

/-! ## The producer function (R135) -/

theorem decodeAnnouncement_produce (h : BitVec 11) (d : BitVec 2) (m : BitVec 7) :
    decodeAnnouncement (produce h d m) = fieldsOutcome d h m := by
  have hresidue := (residueGood_payloadOf_iff h d m _).mpr rfl
  rw [produce, decodeAnnouncement_of_sentinel (annWord_sentinel h d m _), payload28_annWord, if_pos hresidue,
    annWord_deltaCode, annWord_horizon, annWord_offset]

/-- The value of a word's fields in the spec's arithmetic (R129). -/
theorem interpret_eq (h : BitVec 11) (m : BitVec 7) (action : DeltaAction) :
    interpret h m action =
      { year := 1971 + (h.toNat + 10) / 12, month := 1 + (h.toNat + 10) % 12, offsetSeconds := m.toNat,
        delta := deltaSeconds action } := by
  rw [← interpret_year h m action, ← interpret_month h m action]
  rfl

/-- A delta code without the reserved value has an action, with the delta of the rule (R73, R129). -/
theorem exists_deltaAction_of_ne_three {d : BitVec 2} (hd : d ≠ 3#2) :
    ∃ action, deltaAction d = some action ∧ deltaSeconds action = if d = 0#2 then 0 else if d = 1#2 then -1 else 1 := by
  obtain rfl | rfl | rfl | rfl := deltaCode_cases d
  · exact ⟨.none, rfl, rfl⟩
  · exact ⟨.decrement, rfl, rfl⟩
  · exact ⟨.increment, rfl, rfl⟩
  · exact absurd rfl hd

/-- Settles O25: the produced word passes both checks, and its fields are those it was made of. -/
theorem producedWordsDecodeToTheirFields : Obligations.ProducedWordsDecodeToTheirFields := by
  refine fun h dc om => ⟨fun hdc => ?illegal, fun hdc => ?ok⟩
  case illegal => rw [decodeAnnouncement_produce, fieldsOutcome, (deltaAction_eq_none_iff dc).mpr hdc, Option.elim_none]
  case ok =>
    obtain ⟨action, haction, hdelta⟩ := exists_deltaAction_of_ne_three hdc
    rw [decodeAnnouncement_produce, fieldsOutcome, haction, Option.elim_some, ← hdelta]
    exact congrArg DecodeResult.ok (interpret_eq h om action)

/-- A word is produced exactly when it has the sentinel and the residue. -/
theorem eq_produce_iff (w : Word) :
    w = produce (w.extractLsb' 17 11) (w.extractLsb' 15 2) (w.extractLsb' 8 7) ↔
      sentinelOf w = Config.sentinel ∧ residueGood (payload28 w) = true := by
  rw [← payloadOf_slices, residueGood_payloadOf_iff]
  constructor
  · intro h
    exact ⟨(congrArg sentinelOf h).trans (annWord_sentinel _ _ _ _),
      (congrArg (BitVec.extractLsb' 0 8) h).trans (annWord_checksum _ _ _ _)⟩
  · rintro ⟨hsent, hck⟩
    rw [produce, ← hck, annWord_of_slices hsent]

/-- Settles O26: both sides say that the sentinel and the residue are good. -/
theorem acceptedWordsAreTheProducedOnes : Obligations.AcceptedWordsAreTheProducedOnes := fun w =>
  (decodeAnnouncement_passes_iff w).trans (eq_produce_iff w).symm

/-- Settles O22: the 11 bits of the horizon field bound year and month. -/
theorem decodedFieldsAreInRange : Obligations.DecodedFieldsAreInRange := by
  intro raw v hok
  obtain ⟨-, -, action, -, rfl⟩ := (decodeAnnouncement_eq_ok_iff raw v).mp hok
  have hhorizon := (raw.extractLsb' 17 11).isLt
  have hoffset := (raw.extractLsb' 8 7).isLt
  have hdelta : deltaSeconds action = -1 ∨ deltaSeconds action = 0 ∨ deltaSeconds action = 1 := by
    cases action <;> decide
  rw [interpret_eq]
  dsimp only
  omega

end Sys2Proof.Machine

/-! The announcement rows as instructions (R74, R75): what a row does, which is what a `DECODE` of its word does, and what it
leaves in the result and working registers. -/

namespace Sys2Proof.Machine

/-! ## A row's meaning, and the `DECODE` of its word (log 6) -/

theorem exec_annRow (d : BitVec 2) (h : BitVec 11) (m : BitVec 7) (c : BitVec 8) (s : State) :
    exec (annRow d h m c) s = .next (s.respondUnderResidue (payloadOf h d m c) (fieldsOutcome d h m)) := by
  obtain rfl | rfl | rfl | rfl := deltaCode_cases d <;> rfl

theorem exec_notAnnRow (n : BitVec 4) (r : BitVec 28) (s : State) :
    exec (notAnnRow n r) s = .next s.respondBadFormat := by
  unfold notAnnRow
  split_ifs <;> rfl

/-- Settles O24: behind the sentinel both run the engine over the payload and answer what the fields say under the residue
condition; without it both answer `BadFormat`. -/
theorem decodeActsAsTheRowOfItsWord : Obligations.DecodeActsAsTheRowOfItsWord := by
  intro len raw s
  by_cases hsent : sentinelOf raw = Config.sentinel
  · rw [exec_decode, execDecode_eq, if_pos hsent, decodeAnnouncement_of_sentinel hsent, decodeAnn_of_sentinel hsent,
      exec_annRow, payloadOf_slices, State.respondUnderResidue_eq]
  · rw [decodeAnn_of_not_sentinel hsent, exec_notAnnRow, exec_decode, execDecode, if_neg hsent]

/-! ## What a completed row leaves -/

theorem State.engineLeft_respondDecode {n : Nat} (hn : n ≤ 32) (m : Word) (r : DecodeResult) (s : State) :
    EngineLeft m n ((s.runEngine m n).respondDecode r) := by
  obtain ⟨-, -, -, -, -, hacc, hcnt, -⟩ := (s.runEngine m n).respondDecode_frame r
  exact ⟨hacc, (congrArg BitVec.toNat hcnt).trans (engineRun_engineStart_cnt hn m)⟩

/-- The response under the residue condition completes, leaves the engine's end, and answers the outcome or
`IntegrityFailure` (R123). -/
theorem State.respondUnderResidue_completes (p : BitVec 28) (r : DecodeResult) (s : State) :
    Completed s (s.respondUnderResidue p r) ∧ EngineLeft (p.setWidth 32) 28 (s.respondUnderResidue p r) ∧
      (checksum (p.setWidth 32) 28 = 0x80#8 →
        s.respondUnderResidue p r = (s.runEngine (p.setWidth 32) Config.payloadW).respondDecode r) ∧
      (checksum (p.setWidth 32) 28 ≠ 0x80#8 → (s.respondUnderResidue p r).rspStatus = 2#2) := by
  rw [State.respondUnderResidue_eq]
  refine ⟨(State.completed_respondDecode _ _).of_latched_eq (s.latched_runEngine _ _),
    State.engineLeft_respondDecode (by decide) _ _ s, fun hgood => ?good, fun hbad => ?bad⟩
  case good => rw [if_pos ((residueGood_iff p).mpr hgood)]
  case bad => exact State.respondDecode_rspStatus_of_err _ (if_neg ((residueGood_iff p).not.mpr hbad))

/-- The success response of a row holds its fields in the spec's arithmetic (R129, R136). -/
theorem State.holdsFields_interpret (h : BitVec 11) (m : BitVec 7) (action : DeltaAction) (s : State) :
    HoldsFields (1971 + (h.toNat + 10) / 12) (1 + (h.toNat + 10) % 12) m.toNat (deltaBits (deltaSeconds action))
      (s.respondDecode (.ok (interpret h m action))) := by
  have hholds := s.holdsFields_respondOk (interpret_fits h m action)
  rwa [interpret_year, interpret_month] at hholds

/-- A row with an action completes with its fields under the residue condition (R74). -/
theorem State.respondUnderResidue_ok (p : BitVec 28) (h : BitVec 11) (m : BitVec 7) (action : DeltaAction) (s : State) :
    Completed s (s.respondUnderResidue p (.ok (interpret h m action))) ∧
      EngineLeft (p.setWidth 32) 28 (s.respondUnderResidue p (.ok (interpret h m action))) ∧
      (checksum (p.setWidth 32) 28 = 0x80#8 →
        HoldsFields (1971 + (h.toNat + 10) / 12) (1 + (h.toNat + 10) % 12) m.toNat (deltaBits (deltaSeconds action))
          (s.respondUnderResidue p (.ok (interpret h m action)))) ∧
      (checksum (p.setWidth 32) 28 ≠ 0x80#8 →
        (s.respondUnderResidue p (.ok (interpret h m action))).rspStatus = 2#2) := by
  obtain ⟨hcompleted, hengine, hgood, hbad⟩ := s.respondUnderResidue_completes p (.ok (interpret h m action))
  exact ⟨hcompleted, hengine, fun hc => hgood hc ▸ State.holdsFields_interpret h m action _, hbad⟩

/-- Settles O27: the three rows are one response under the residue condition, with the action of each. -/
theorem legalAnnouncementRowsComplete : Obligations.LegalAnnouncementRowsComplete := fun h m c s =>
  ⟨⟨_, rfl, s.respondUnderResidue_ok (payloadOf h 0#2 m c) h m .none⟩,
    ⟨_, rfl, s.respondUnderResidue_ok (payloadOf h 1#2 m c) h m .decrement⟩,
    ⟨_, rfl, s.respondUnderResidue_ok (payloadOf h 2#2 m c) h m .increment⟩⟩

/-- Settles O28: behind a good residue the reserved delta code answers its error. -/
theorem illegalDeltaRowCompletes : Obligations.IllegalDeltaRowCompletes := by
  intro h m c s
  obtain ⟨hcompleted, hengine, hgood, hbad⟩ :=
    s.respondUnderResidue_completes (payloadOf h 3#2 m c) (.err .illegalDelta)
  exact ⟨_, rfl, hcompleted, hengine, fun hc => hgood hc ▸ rfl, hbad⟩

/-- What `BadFormat` leaves, `CNT` within its range (R33, R121). -/
theorem State.respondBadFormat_completes (s : State) :
    Completed s s.respondBadFormat ∧ s.respondBadFormat.rspStatus = 1#2 ∧ s.respondBadFormat.cnt.toNat ≤ 32 :=
  ⟨(State.completed_respondDecode _ _).of_latched_eq s.latched_drawWork, rfl, drawnCnt_le s.draws⟩

/-- Settles O29: the four rows are the one response to a bad sentinel. -/
theorem rowsWithoutSentinelComplete : Obligations.RowsWithoutSentinelComplete := fun _ _ _ _ s =>
  have h := s.respondBadFormat_completes
  ⟨⟨_, rfl, h⟩, ⟨_, rfl, h⟩, ⟨_, rfl, h⟩, ⟨_, rfl, h⟩⟩

/-- Settles O18: the response of a legal `CHECKSUM` is read from the registers that the engine leaves. -/
theorem checksumLeavesTheEndOfItsComputation : Obligations.ChecksumLeavesTheEndOfItsComputation := by
  intro len m s hlo hhi
  exact ⟨_, (exec_checksum len m s).trans (execChecksum_of_legal ⟨hlo, hhi⟩ m s),
    ⟨rfl, engineRun_engineStart_cnt hhi m⟩, rfl⟩

end Sys2Proof.Machine

/-! What a completion can do to the state (R153), and the steps that are a completion. -/

namespace Sys2Proof.Machine

/-! ## What a completion can do -/

/-- `t` is a response given to `s` after its working registers were left open or taken by an engine run of at most 32
iterations. -/
def Responds (s t : State) : Prop :=
  ∃ u : State, (u = s.drawWork ∨ ∃ m n, n ≤ 32 ∧ u = s.runEngine m n) ∧
    ((∃ c, t = u.respondCrc c) ∨ ∃ r, t = u.respondDecode r)

theorem responds_respondCrc {n : Nat} (hn : n ≤ 32) (m : Word) (c : BitVec 8) (s : State) :
    Responds s ((s.runEngine m n).respondCrc c) :=
  ⟨_, .inr ⟨m, n, hn, rfl⟩, .inl ⟨c, rfl⟩⟩

theorem responds_respondDecode {n : Nat} (hn : n ≤ 32) (m : Word) (r : DecodeResult) (s : State) :
    Responds s ((s.runEngine m n).respondDecode r) :=
  ⟨_, .inr ⟨m, n, hn, rfl⟩, .inr ⟨r, rfl⟩⟩

theorem responds_respondBadFormat (s : State) : Responds s s.respondBadFormat :=
  ⟨_, .inl rfl, .inr ⟨_, rfl⟩⟩

theorem responds_respondUnderResidue (p : BitVec 28) (r : DecodeResult) (s : State) :
    Responds s (s.respondUnderResidue p r) :=
  State.respondUnderResidue_eq p r s ▸ responds_respondDecode (by decide) _ _ s

/-- Every instruction that answers, answers with a response. -/
theorem responds_of_exec {i : Instr} {s t : State} (h : exec i s = .next t) : Responds s t := by
  cases i with
  | checksum len message =>
    rw [exec_checksum] at h
    by_cases hlen : LegalLength len
    · rw [execChecksum_of_legal hlen] at h
      cases h
      exact responds_respondCrc hlen.2 message _ s
    · rw [execChecksum_of_not_legal hlen] at h
      cases h
  | decode len raw =>
    rw [exec_decode, execDecode] at h
    split at h
    · cases h
      exact responds_respondDecode (by decide) _ _ s
    · cases h
      exact responds_respondBadFormat s
  | annNone | annDec | annInc | annIllegal =>
    cases h
    exact responds_respondUnderResidue _ _ s
  | notAnn0xxx | notAnn10xx | notAnn110x | notAnn1110 =>
    cases h
    exact responds_respondBadFormat s

/-- A response leaves what is left to wait and the host's port levels, and makes one draw (log 1, log 2, log 4). -/
theorem Responds.own_fields {s t : State} (h : Responds s t) :
    t.wait = s.wait ∧ t.script = s.script ∧ t.draws = s.draws + 1 := by
  obtain ⟨u, hu, ht⟩ := h
  have hframe : u.wait = s.wait ∧ u.script = s.script ∧ u.draws = s.draws := by
    obtain rfl | ⟨m, n, -, rfl⟩ := hu <;> exact ⟨rfl, rfl, rfl⟩
  obtain ⟨hwait, hscript, hdraws⟩ := hframe
  obtain ⟨c, rfl⟩ | ⟨r, rfl⟩ := ht
  · exact ⟨hwait, hscript, congrArg (· + 1) hdraws⟩
  · obtain ⟨-, -, -, -, -, -, -, hwait', hscript', hdraws'⟩ := u.respondDecode_frame r
    exact ⟨hwait'.trans hwait, hscript'.trans hscript, hdraws'.trans (congrArg (· + 1) hdraws)⟩

/-- After a response `CNT` is in its range, drawn or counted (R33). -/
theorem Responds.cnt_le {s t : State} (h : Responds s t) : t.cnt.toNat ≤ 32 := by
  obtain ⟨u, hu, ht⟩ := h
  have hcnt : u.cnt.toNat ≤ 32 := by
    obtain rfl | ⟨m, n, hn, rfl⟩ := hu
    · exact drawnCnt_le s.draws
    · exact (engineRun_engineStart_cnt hn m).trans_le hn
  obtain ⟨c, rfl⟩ | ⟨r, rfl⟩ := ht
  · exact hcnt
  · obtain ⟨-, -, -, -, -, -, hcnt', -⟩ := u.respondDecode_frame r
    exact hcnt' ▸ hcnt

/-- Settles O30: a completion is a response. -/
theorem completionLeavesTheModelsOwnFields : Obligations.CompletionLeavesTheModelsOwnFields :=
  fun _ _ _ h => (responds_of_exec h).own_fields

/-! ## The edges of an operation (R152, R153) -/

theorem step_of_edge_wait {s : State} (he : s.edge = .wait) : step s = .next s.sampled.waitEdge := by
  simp only [step, he]

theorem step_of_edge_complete {s : State} (he : s.edge = .complete) : step s = exec s.latchedInstr s.sampled := by
  simp only [step, he]

/-- Settles O31: every kind of edge starts from the sampled state and leaves its script. -/
theorem everyStepSamplesThePortsOnce : Obligations.EveryStepSamplesThePortsOnce := by
  intro s t h
  obtain ⟨-, rfl⟩ | ⟨-, hexec⟩ | ⟨-, rfl⟩ | ⟨r, -, -, rfl⟩ | ⟨-, rfl⟩ := step_cases h
  case inr.inl =>
    obtain ⟨-, hscript, -⟩ := (responds_of_exec hexec).own_fields
    exact hscript
  all_goals rfl

/-- Settles O32: the edge is a completing one. -/
theorem stepRunsTheLatchedOperation : Obligations.StepRunsTheLatchedOperation := fun s hrst hbusy hwait =>
  step_of_edge_complete (s.edge_eq_complete_iff.mpr ⟨hrst, hbusy, hwait⟩)

/-- Settles O37: the edge is one of an operation that goes on. -/
theorem anOperationInProgressShowsNothing : Obligations.AnOperationInProgressShowsNothing := by
  intro s hrst hbusy hvalid hwait
  exact ⟨_, step_of_edge_wait (s.edge_eq_wait_iff.mpr ⟨hrst, hbusy, hwait⟩), hbusy, hvalid, rfl,
    Nat.sub_add_cancel (Nat.pos_of_ne_zero hwait)⟩

/-- Settles O43: each output port shows a result register or `BUSY`. -/
theorem hiddenRegistersDoNotShow : Obligations.HiddenRegistersDoNotShow := fun _ _ _ _ _ _ _ _ _ => rfl

/-! ## A placed word (log 5, log 6) -/

/-- The state with a request placed is at a completing edge. -/
theorem State.edge_placeRequest (r : Request) (s : State) : (s.placeRequest r).edge = .complete := by
  refine (State.edge_eq_complete_iff _).mpr ⟨?_, rfl, rfl⟩
  simp only [State.pins, State.placeRequest]
  cases s.script <;> rfl

theorem step_placeRequest (r : Request) (s : State) :
    step (s.placeRequest r) = exec (decodeReq r.word) (s.placeRequest r).sampled :=
  step_of_edge_complete (s.edge_placeRequest r)

/-- A numbered word that is an instruction is an announcement word of 32 bits or a request word of 39 or 40 (log 13). -/
theorem decodeTableWord_cases {nbits w : Nat} {i : Instr} (h : decodeTableWord nbits w = some i) :
    (nbits = 32 ∧ i = decodeAnn (BitVec.ofNat 32 w)) ∨
      (32 < nbits ∧ i = decodeReq (BitVec.ofNat 39 w)) := by
  unfold decodeTableWord decodeNumbered codeWordOf at h
  split_ifs at h with h32 hlt hreq hlt
  · exact .inl ⟨h32, by simpa [decodeCode, eq_comm] using h⟩
  · exact .inr ⟨by omega, by simpa [decodeCode, eq_comm] using h⟩

/-- Settles O33: a request word is latched as itself, and an announcement word as the operand of a `DECODE`, which does what
the word's row does. -/
theorem stepRunsThePlacedWord : Obligations.StepRunsThePlacedWord := by
  intro s nbits w i h
  rw [State.withFetchWord, step_placeRequest]
  obtain ⟨rfl, rfl⟩ | ⟨hbits, rfl⟩ := decodeTableWord_cases h
  case inl =>
    rw [requestOfNumbered, if_pos le_rfl, decodeReq_word_of_decode rfl]
    exact decodeActsAsTheRowOfItsWord _ _ _
  case inr => rw [requestOfNumbered, if_neg hbits.not_ge, word_requestOf]

end Sys2Proof.Machine

/-! The invariant of the block (R25, R26, R33, R57): every step keeps it, and what it says of a held response and of the steps
that are refused (R181). -/

namespace Sys2Proof.Machine

/-! ## Legal requests are answered (R105, R156, R181) -/

theorem Request.not_legal_iff (r : Request) : ¬ r.Legal ↔ r.op = 0#1 ∧ (r.len.toNat = 0 ∨ 33 ≤ r.len.toNat) := by
  refine ⟨fun h => ?_, fun ⟨hop, hlen⟩ => Request.not_legal_of_reserved hop hlen⟩
  obtain ⟨hop, hlen⟩ := Classical.not_imp.mp h
  rw [LegalLength, Config.accW] at hlen
  exact ⟨hop, by omega⟩

theorem exec_decodeReq_of_legal {r : Request} (hlegal : r.Legal) (s : State) :
    ∃ t, exec (decodeReq r.word) s = .next t := by
  obtain hop | hop := BitVec.eq_zero_or_eq_one r.op
  · rw [decodeReq_word_of_checksum hop, exec_checksum, execChecksum_of_legal (hlegal hop)]
    exact ⟨_, rfl⟩
  · rw [decodeReq_word_of_decode hop, exec_decode, execDecode_eq]
    exact ⟨_, rfl⟩

theorem exists_respOf_of_legal {r : Request} (hlegal : r.Legal) : ∃ x, respOf r = some x := by
  unfold respOf
  split
  next hop => exact ⟨_, if_pos (hlegal hop)⟩
  next => exact ⟨_, rfl⟩

theorem respOf_of_decode {r : Request} (hop : r.op ≠ 0#1) :
    respOf r = some (responseOfDecode (decodeAnnouncement r.data)) :=
  if_neg hop

/-! ## The invariant, edge by edge -/

theorem State.inv_resetEdge (s : State) : s.resetEdge.Inv where
  cnt_le := drawnCnt_le s.draws
  busy_no_response := nofun
  busy_legal := nofun
  held_response := nofun
  crc_status := nofun

theorem State.inv_acceptEdge {r : Request} (hlegal : r.Legal) (s : State) : (s.acceptEdge r).Inv where
  cnt_le := drawnCnt_le s.draws
  busy_no_response := fun _ => rfl
  busy_legal := fun _ => hlegal
  held_response := nofun
  crc_status := nofun

/-- While busy, no response is held, so there is nothing to be said of one. -/
theorem State.Inv.waitEdge {s : State} (h : s.Inv) (hbusy : s.busy = true) : s.waitEdge.Inv where
  cnt_le := drawnCnt_le s.draws
  busy_no_response := h.busy_no_response
  busy_legal := h.busy_legal
  held_response := fun hvalid => absurd ((h.busy_no_response hbusy).symm.trans hvalid) Bool.false_ne_true
  crc_status := fun hvalid => absurd ((h.busy_no_response hbusy).symm.trans hvalid) Bool.false_ne_true

theorem State.Inv.idleEdge {s : State} (h : s.Inv) : s.idleEdge.Inv where
  cnt_le := drawnCnt_le s.draws
  busy_no_response := h.busy_no_response
  busy_legal := h.busy_legal
  held_response := fun hvalid => s.response_idleEdge.trans (h.held_response hvalid)
  crc_status := fun hvalid hop => (s.drawResults_status hvalid).trans (h.crc_status hvalid hop)

/-- A step looks at the port levels only, so the sampled state is as good as the state. -/
theorem State.Inv.sampled {s : State} (h : s.Inv) : s.sampled.Inv :=
  ⟨h.cnt_le, h.busy_no_response, h.busy_legal, h.held_response, h.crc_status⟩

theorem rspStatus_of_exec_checksum {len : BitVec 6} {m : Word} {s t : State}
    (h : exec (.checksum len m) s = .next t) : t.rspStatus = statusOk := by
  rw [exec_checksum] at h
  by_cases hlen : LegalLength len
  · rw [execChecksum_of_legal hlen] at h
    cases h
    rfl
  · rw [execChecksum_of_not_legal hlen] at h
    cases h

/-- A completion leaves the response of the latched request, whatever the state it starts from (R5, R153). -/
theorem inv_of_exec_latchedInstr {s t : State} (h : exec s.latchedInstr s.sampled = .next t) : t.Inv := by
  have hcompleted := completed_of_exec_latchedInstr h
  refine ⟨(responds_of_exec h).cnt_le, ?_, ?_, fun _ => ?response, fun _ hop => ?status⟩
  case response =>
    rw [hcompleted.latched_eq]
    exact responsesDependOnTheRequestAlone s.latched s.sampled t s.latched_sampled h
  case status =>
    rw [State.latchedInstr, decodeReq_word_of_checksum (hcompleted.op.symm.trans hop)] at h
    exact rspStatus_of_exec_checksum h
  all_goals exact fun hbusy => absurd (hcompleted.busy.symm.trans hbusy) Bool.false_ne_true

/-- Settles O45, edge by edge. -/
theorem everyStepKeepsTheInvariant : Obligations.EveryStepKeepsTheInvariant := by
  intro s t hinv h
  obtain ⟨-, rfl⟩ | ⟨-, hexec⟩ | ⟨he, rfl⟩ | ⟨r, -, hlegal, rfl⟩ | ⟨-, rfl⟩ := step_cases h
  case inl => exact s.sampled.inv_resetEdge
  case inr.inl => exact inv_of_exec_latchedInstr hexec
  case inr.inr.inl =>
    obtain ⟨-, hbusy, -⟩ := s.edge_eq_wait_iff.mp he
    exact hinv.sampled.waitEdge hbusy
  case inr.inr.inr.inl => exact s.sampled.inv_acceptEdge hlegal
  case inr.inr.inr.inr => exact hinv.sampled.idleEdge

/-- Settles O46: after reset nothing is in progress and no response is held. -/
theorem resetSatisfiesTheInvariant : Obligations.ResetSatisfiesTheInvariant where
  cnt_le := by decide
  busy_no_response := nofun
  busy_legal := nofun
  held_response := nofun
  crc_status := nofun

/-! ## What is refused (R181) -/

/-- From a good state a step answers, unless it would accept an illegal request. -/
theorem State.Inv.step_answers {s : State} (h : s.Inv) :
    (∃ t, step s = .next t) ∨
      ∃ r, s.edge = .accept r ∧ ¬ r.Legal ∧ step s = .refused (.reservedLength r.len) := by
  obtain ⟨hrst, he⟩ | ⟨-, hbusy, -, he⟩ | ⟨-, -, -, he⟩ | ⟨-, -, -, he⟩ | ⟨-, -, -, he⟩ := s.edge_cases
  case inl => exact .inl ⟨_, step_of_edge_reset he⟩
  case inr.inl =>
    obtain ⟨t, ht⟩ := exec_decodeReq_of_legal (h.busy_legal hbusy) s.sampled
    exact .inl ⟨t, (step_of_edge_complete he).trans ht⟩
  case inr.inr.inl => exact .inl ⟨_, step_of_edge_wait he⟩
  case inr.inr.inr.inl =>
    by_cases hlegal : (requestOnPins s.pins).Legal
    · exact .inl ⟨_, step_of_accept_legal he hlegal⟩
    · exact .inr ⟨_, he, hlegal, step_refused_of_accept_not_legal he hlegal⟩
  case inr.inr.inr.inr => exact .inl ⟨_, step_of_edge_idle he⟩

/-- Settles O47: `Fault` has no value, and a refusal is that of an accepting edge. -/
theorem onlyReservedLengthsAreRefused : Obligations.OnlyReservedLengthsAreRefused := by
  refine fun s hinv => ⟨nofun, fun e => ⟨fun hrefused => ?refused, ?reserved⟩⟩
  case refused =>
    obtain ⟨t, ht⟩ | ⟨r, he, hlegal, hstep⟩ := hinv.step_answers
    · rw [ht] at hrefused
      cases hrefused
    · rw [hstep] at hrefused
      cases hrefused
      obtain ⟨hrst, hbusy, hreq, rfl⟩ := (s.edge_eq_accept_iff r).mp he
      obtain ⟨hop, hlen⟩ := (Request.not_legal_iff _).mp hlegal
      exact ⟨hrst, hbusy, hreq, hop, hlen, rfl⟩
  case reserved =>
    rintro ⟨hrst, hbusy, hreq, hop, hlen, rfl⟩
    exact step_refused_of_accept_not_legal ((s.edge_eq_accept_iff _).mpr ⟨hrst, hbusy, hreq, rfl⟩)
      ((Request.not_legal_iff _).mpr ⟨hop, hlen⟩)

/-! ## What the meaningful fields hold (R26, R130) -/

/-- Meaningful fields are the value of the latched word. -/
theorem State.Inv.fields_decoded {s : State} (h : s.Inv) (hread : s.fieldsReadable = true) :
    decodeAnnouncement s.opr = .ok { year := s.rspYear.toNat, month := s.rspMonth.toNat,
                                     offsetSeconds := s.rspOffset.toNat, delta := s.rspDelta.toInt } := by
  obtain ⟨hvalid, hop, hstatus⟩ := s.fieldsReadable_iff.mp hread
  have hop0 : s.op ≠ 0#1 := by simp [hop]
  have hresp := h.held_response hvalid
  rw [State.response_of_fields hvalid hop0 ((errorOfCode_eq_none_iff _).mpr hstatus),
    respOf_of_decode (r := s.latched) hop0] at hresp
  cases hdecode : decodeAnnouncement s.opr with
  | ok v => simpa [State.latched, hdecode, responseOfDecode, eq_comm] using hresp
  | err k => simp [State.latched, hdecode, responseOfDecode] at hresp

/-- The two bits `0b10` are -2, no delta (R136, U15). -/
theorem ne_of_toInt_delta : ∀ d : BitVec 2, d.toInt = -1 ∨ d.toInt = 0 ∨ d.toInt = 1 → d ≠ 0b10#2 := by decide

/-- Settles O48: the fields are decoded ones. -/
theorem meaningfulFieldsAreLegal : Obligations.MeaningfulFieldsAreLegal := by
  intro s hinv hread
  obtain ⟨hyear, hyear', hmonth, hmonth', -, hdelta, -⟩ := decodedFieldsAreInRange s.opr _ (hinv.fields_decoded hread)
  exact ⟨hyear, hyear', hmonth, hmonth', ne_of_toInt_delta _ hdelta⟩

end Sys2Proof.Machine

/-! Runs: an operation in progress completes unless reset intervenes (R152, R214), a host program observes the responses of its
requests (R156), and instances are stepped apart (R177). -/

namespace Sys2Proof.Machine

/-! ## The coming port levels -/

theorem State.NoResetFor.rst {n : Nat} {s : State} (h : s.NoResetFor (n + 1)) : s.pins.rst = false := by
  rw [State.NoResetFor] at h
  rw [State.pins]
  cases hscript : s.script with
  | nil => rfl
  | cons p ps =>
    rw [hscript, List.take_succ_cons] at h
    exact h p List.mem_cons_self

theorem State.NoResetFor.of_tail {n : Nat} {s t : State} (h : s.NoResetFor (n + 1))
    (hscript : t.script = s.script.tail) : t.NoResetFor n := by
  intro p hp
  rw [hscript] at hp
  cases hs : s.script with
  | nil => simp [hs] at hp
  | cons q qs =>
    rw [hs, List.tail_cons] at hp
    exact h p (by rw [hs, List.take_succ_cons]; exact List.mem_cons_of_mem _ hp)

/-! ## An operation completes -/

/-- Without reset, an operation in progress with `n` edges to wait completes after `n + 1` edges with the response of its
request. -/
theorem run_completes (n : Nat) {s : State} (hinv : s.Inv) (hbusy : s.busy = true) (hwait : s.wait = n)
    (hreset : s.NoResetFor (n + 1)) :
    ∃ t, Host.Core.run Sys2Proof.core (n + 1) s = .next t ∧ Completed s t ∧ t.response = respOf s.latched := by
  induction n generalizing s with
  | zero =>
    have he : s.edge = .complete := s.edge_eq_complete_iff.mpr ⟨hreset.rst, hbusy, hwait⟩
    obtain ⟨t, hexec⟩ := exec_decodeReq_of_legal (hinv.busy_legal hbusy) s.sampled
    exact ⟨t, run_of_step 0 ((step_of_edge_complete he).trans hexec), completed_of_exec_latchedInstr hexec,
      responsesDependOnTheRequestAlone s.latched s.sampled t s.latched_sampled hexec⟩
  | succ n ih =>
    have he : s.edge = .wait := s.edge_eq_wait_iff.mpr ⟨hreset.rst, hbusy, by omega⟩
    have hstep := step_of_edge_wait he
    have hlatched : s.sampled.waitEdge.latched = s.latched := rfl
    obtain ⟨t, hrun, hcompleted, hresp⟩ := ih (everyStepKeepsTheInvariant s _ hinv hstep) hbusy
      (congrArg (· - 1) hwait) (hreset.of_tail rfl)
    exact ⟨t, (run_of_step (n + 1) hstep).trans hrun, hcompleted.of_latched_eq hlatched, hresp.trans (by rw [hlatched])⟩

/-- Settles O49: what is left of `T_OP` is `wait` edges and the completing one. -/
theorem acceptedRequestsComplete : Obligations.AcceptedRequestsComplete := by
  intro s hinv hbusy hreset
  obtain ⟨t, hrun, hcompleted, hresp⟩ := run_completes s.wait hinv hbusy rfl hreset
  exact ⟨t, hrun, hcompleted.busy, hcompleted.rspValid, hcompleted.latched_eq, hresp⟩

/-! ## Host programs (R156) -/

/-- A ready block serves a legal request with its response, whatever state it is in. -/
theorem serve_of_legal {r : Request} {s : State} (hbusy : s.busy = false) (hlegal : r.Legal) :
    ∃ t, serve r s = .next t ∧ t.busy = false ∧ t.rspValid = true ∧ t.response = respOf r := by
  have he : ({ s with script := [presentPins r] } : State).edge = .accept r :=
    State.edge_eq_accept_of_script (s := { s with script := [presentPins r] }) (p := presentPins r) rfl rfl rfl hbusy
  have hstep := step_of_accept_legal he hlegal
  obtain ⟨t, hrun, hcompleted, hresp⟩ :=
    run_completes _ (State.inv_acceptEdge hlegal (State.sampled { s with script := [presentPins r] })) rfl rfl nofun
  refine ⟨t, ?_, hcompleted.busy, hcompleted.rspValid, hresp⟩
  simp only [serve, hstep]
  exact hrun

/-- The run of a program that begins with a request served. -/
theorem runProgram_cons {r : Request} {rs : List Request} {s t u : State} {x : Response} {xs : List Response}
    (hserve : serve r s = .next t) (hresp : t.response = some x) (hrun : runProgram rs t = some (xs, u)) :
    runProgram (r :: rs) s = some (x :: xs, u) := by
  simp only [runProgram, hserve, hresp, hrun]

/-- A program of legal requests ends ready, holding a response if it has served a request or held one before. -/
theorem runProgram_of_legal (prog : List Request) {s : State} (hbusy : s.busy = false) (hlegal : ∀ r ∈ prog, r.Legal) :
    ∃ (obs : List Response) (t : State), runProgram prog s = some (obs, t) ∧ obs.map some = prog.map respOf ∧
      t.busy = false ∧ (prog ≠ [] ∨ s.rspValid = true → t.rspValid = true) := by
  induction prog generalizing s with
  | nil => exact ⟨[], s, rfl, rfl, hbusy, fun h => h.resolve_left (· rfl)⟩
  | cons r rs ih =>
    rw [List.forall_mem_cons] at hlegal
    obtain ⟨hr, hrs⟩ := hlegal
    obtain ⟨t, hserve, htbusy, htvalid, hresp⟩ := serve_of_legal hbusy hr
    obtain ⟨x, hx⟩ := exists_respOf_of_legal hr
    obtain ⟨xs, u, hrun, hobs, hubusy, huvalid⟩ := ih htbusy hrs
    refine ⟨x :: xs, u, runProgram_cons hserve (hresp.trans hx) hrun, ?_, hubusy, fun _ => huvalid (.inr htvalid)⟩
    rw [List.map_cons, List.map_cons, hobs, hx]

/-- Settles O50, by induction on the program. -/
theorem programsObserveTheResponsesOfTheirRequests : Obligations.ProgramsObserveTheResponsesOfTheirRequests := by
  intro prog s hbusy hlegal
  obtain ⟨obs, t, hrun, hobs, htbusy, hvalid⟩ := runProgram_of_legal prog hbusy hlegal
  exact ⟨obs, t, hrun, hobs, htbusy, fun h => hvalid (.inl h)⟩

/-! ## Several instances (R177; log 15) -/

/-- Settles O51: a step of the system replaces one entry of the list. -/
theorem instancesShareNothing : Obligations.InstancesShareNothing := by
  intro sys k s hs
  obtain ⟨hk, -⟩ := List.getElem?_eq_some_iff.mp hs
  refine ⟨fun t ht => ⟨sys.set k t, ?step, List.getElem?_set_self hk, List.length_set,
    fun j hj => List.getElem?_set_ne hj.symm⟩, fun e he => ?refused⟩
  case step => simp only [stepInstance, hs, ht]
  case refused => simp only [stepInstance, hs, he]

end Sys2Proof.Machine
